-- ==== Sys2Proof/Word.lean ====
section
/-! DEFINITION. The word types of the IP340's records and counters. -/

namespace Sys2Proof

/-- One byte of a record, of the memory link, of the cue track or of the remote line. -/
abbrev Byte := BitVec 8

/-- A two-byte field: an address on the memory link, a cue number, a log detail (little-endian in records). -/
abbrev Word := BitVec 16

/-- A four-byte quantity: the show clock, the microsecond counter, a lead's clock. -/
abbrev Clock32 := BitVec 32

/-- A sensor code of 0..1023 (lamp supply, lamp current, temperatures, line voltage). -/
abbrev Code10 := BitVec 10

end Sys2Proof
end

