-- ==== Sys2Proof/Syntax.lean ====
section
/-! DEFINITION. The commands of the IP340: one constructor of `Instr` per row of spec/opcode_table.json, with the values
that reach the part with it. The rows give no fields, so every operand is read from the rule the row cites. -/

namespace Sys2Proof

/-- The gate sensor's three readings (R46). -/
inductive GateReading where
  | empty
  | seated
  | partialSeat
  deriving DecidableEq, Repr

/-- What the sensors report at the moment of a reset: the resets of the transport (R57) and of the lamp controller
(R83) take their state from them. -/
structure ResetSense where
  /-- the tray presence sensor reports a tray -/
  tray : Bool
  /-- the cam index sensor reports the cam at its index -/
  camAtIndex : Bool
  /-- the gate sensor's reading -/
  gate : GateReading
  /-- the PRIMARY end switch is made -/
  endPrimary : Bool
  /-- the SPARE end switch is made -/
  endSpare : Bool
  deriving DecidableEq, Repr

/-- How far the address phase of a READ or WRITE came before the select rose (R181). -/
inductive AddrPhase where
  /-- the select rose before the first address byte was complete -/
  | absent
  /-- the select rose after the high address byte -/
  | high (hi : Byte)
  /-- both address bytes are complete -/
  | full (addr : Word)
  deriving DecidableEq, Repr

/-- What the lead's receiver made of the low level that began in the reply window (R152, R154). -/
inductive LineRx where
  /-- the bytes of the frame, header first and check byte last, every one well framed -/
  | bytes (bs : List Byte)
  /-- a framing error of the levels: a stop bit read low, a late start bit, a break of the wrong length -/
  | framing
  deriving DecidableEq, Repr

/-- A broadcast frame that a follower turns into a cue (Table 7-2, R166); `t16` is the low half of the lead's start. -/
inductive LinkFrame where
  | cue (number t16 : Word)
  | advance (t16 : Word)
  | reverse (t16 : Word)
  | hold (t16 : Word)
  | endShow (t16 : Word)
  deriving DecidableEq, Repr

/-- The commands, in the order of spec/opcode_table.json. -/
inductive Instr where
  /-- POWER_ON_RESET: the standby supply comes up -/
  | powerOnReset (r : ResetSense)
  /-- RESET_INPUT: the host asserts the reset line -/
  | resetInput (r : ResetSense)
  /-- CUE_TAKE: the engine takes the oldest queued cue -/
  | cueTake
  /-- CUE_START: the scheduled start of a cue in WAITING passes -/
  | cueStart
  /-- TRAY_STEP: the stepper interval expires -/
  | trayStep
  /-- HOMING_SEARCH_EXHAUSTED: the search has taken all its steps -/
  | homingSearchExhausted
  /-- STALL_SENSED: back EMF senses a stall -/
  | stallSensed
  /-- STALL_PAUSE_END: the stall pause expires -/
  | stallPauseEnd
  /-- TRAY_INDEX_EDGE: the tray index sensor sees its edge -/
  | trayIndexEdge
  /-- CAM_ENCODER_COUNT: one encoder count of the cam -/
  | camEncoderCount
  /-- CAM_INDEX_EDGE: the cam index sensor sees its edge -/
  | camIndexEdge
  /-- CAM_TIMEOUT: the revolution's time is used up -/
  | camTimeout
  /-- SEAT_TIMEOUT: the seat timeout expires -/
  | seatTimeout
  /-- GATE_CHANGE: the gate sensor's reading becomes `g` -/
  | gateChange (g : GateReading)
  /-- TRAY_REMOVED: the tray sensor reports absent -/
  | trayRemoved
  /-- TRAY_INSERTED: the tray sensor reports present -/
  | trayInserted
  /-- FOCUS_ALLOWANCE_SPENT: the hold has used 4 s of running time -/
  | focusAllowanceSpent
  /-- LAMP_PERIOD: a lamp period with supply reading `vs` and current reading `im` -/
  | lampPeriod (vs im : Code10)
  /-- LAMP_RAMP_DONE: the ramp stage at which the ramp reaches k = N -/
  | lampRampDone
  /-- OPEN_FILAMENT: the open-filament count reaches 3 -/
  | openFilament
  /-- LOW_SUPPLY: the low-supply count reaches 50 at the reading `vs` -/
  | lowSupply (vs : Code10)
  /-- END_SWITCH_CHANGE: the carriage end switches now report `primary` and `spare` -/
  | endSwitchChange (primary spare : Bool)
  /-- CARRIAGE_ARRIVAL: the carriage reaches the active socket -/
  | carriageArrival
  /-- CARRIAGE_TIMEOUT: 2 s after the motor started -/
  | carriageTimeout
  /-- USAGE_TICK: once a second -/
  | usageTick
  /-- POWER_KEY: the power key is pressed -/
  | powerKey
  /-- RUNUP_SUPPLY_GOOD: the run-up count reaches 10 -/
  | runupSupplyGood
  /-- RUNUP_TIMEOUT: the run-up timer expires -/
  | runupTimeout
  /-- SHUTDOWN_COMPLETE: lamp out, no cycle in flight, cooldown clear -/
  | shutdownComplete
  /-- COOLING_PERIOD: a cooling period with the two sensor codes -/
  | coolingPeriod (gate house : Code10)
  /-- FAN_SPIN_UP_END: the spin-up timer expires -/
  | fanSpinUpEnd
  /-- FAN_TACH_EDGE: an edge of the fan tachometer -/
  | fanTachEdge
  /-- FAN_GAP_TIMEOUT: the gap timer expires in WATCHING -/
  | fanGapTimeout
  /-- FAN_RECOVERY_GAP: a gap of more than 250 ms in a recovery run -/
  | fanRecoveryGap
  /-- FAN_RECOVERED: a recovery run has lasted 1 s -/
  | fanRecovered
  /-- BRAKE_END: the brake timer expires -/
  | brakeEnd
  /-- REEL_PULSE: a pulse of the reel tachometer -/
  | reelPulse
  /-- TAPE_END: the tape-end watch expires -/
  | tapeEnd
  /-- TAPE_SECOND: the tape-second timer has counted 1 s -/
  | tapeSecond
  /-- AUDIO_PERIOD: an audio period -/
  | audioPeriod
  /-- CUE_EDGE: an edge of the squared cue signal -/
  | cueEdge
  /-- DECODE_PASS: a decode pass -/
  | decodePass
  /-- CELL_BOUNDARY: a boundary of the writer's cell clock -/
  | cellBoundary
  /-- DISCHARGE_END: the discharge time in OFF ends -/
  | dischargeEnd
  /-- DETECT_PERIOD: a line voltage reading in DETECT -/
  | detectPeriod (v : Code10)
  /-- LINE_DETECTED: the detection count reaches 4 -/
  | lineDetected
  /-- SETTLING_END: the settling timer expires -/
  | settlingEnd
  /-- LINE_OVERCURRENT: the current sense reports an overcurrent -/
  | lineOvercurrent
  /-- RETRY_TIMER_END: the retry timer expires -/
  | retryTimerEnd
  /-- QUIET_TIMER_END: the quiet timer expires -/
  | quietTimerEnd
  /-- NO_ANSWER_TIMEOUT: the no-answer timer expires -/
  | noAnswerTimeout
  /-- LEAD_FRAME_SENT: the last stop bit of the lead's frame ends -/
  | leadFrameSent
  /-- REPLY_RECEIVED: the frame in RECEIVING ends or errs -/
  | replyReceived (rx : LineRx)
  /-- REPLY_WINDOW_TIMEOUT: the reply window closes; `low` says that a low level begins exactly then -/
  | replyWindowTimeout (low : Bool)
  /-- RECEIVE_LINE_QUIET: the line has stayed high for 4b -/
  | receiveLineQuiet
  /-- SYNC_TIMER: 1,000 ms after the last SYNC's break -/
  | syncTimer
  /-- POLL_PERIOD: a poll period starts -/
  | pollPeriod
  /-- FOLLOWER_POLL: a good POLL to the address `addr` -/
  | followerPoll (addr : BitVec 3)
  /-- FOLLOWER_SYNC: a good SYNC of lead time `lead`, whose break began `age` microseconds ago -/
  | followerSync (lead : Clock32) (age : Nat)
  /-- FOLLOWER_BROADCAST_CUE: a good broadcast frame that makes a cue -/
  | followerBroadcastCue (f : LinkFrame)
  /-- LINK_STOP_FRAME: a good STOP frame -/
  | linkStopFrame
  /-- LINK_RESUME_FRAME: a good RESUME frame -/
  | linkResumeFrame
  /-- LINE_FRAME_ERROR: a frame with a framing or check error, or a CUE number above 4095 -/
  | lineFrameError
  /-- SYNC_LOST: the sync timer expires -/
  | syncLost
  /-- ERR_TIMEOUT: the Err timer expires -/
  | errTimeout
  /-- ENTRY_TIMEOUT: the entry timer expires -/
  | entryTimeout
  /-- AUTO_REPEAT_HOLD_END: the hold timer expires -/
  | autoRepeatHoldEnd
  /-- READ: a READ command and its address phase -/
  | read (a : AddrPhase)
  /-- READ_DATA_BYTE: a data byte of a READ, on which the memory answers `m` -/
  | readDataByte (m : Byte)
  /-- WRITE: a WRITE command and its address phase -/
  | write (a : AddrPhase)
  /-- WRITE_DATA_BYTE: a data byte `b` from the host -/
  | writeDataByte (b : Byte)
  /-- SET_LATCH: a SET LATCH command -/
  | setLatch
  /-- CLEAR_LATCH: a CLEAR LATCH command -/
  | clearLatch
  /-- READ_STATUS: a READ STATUS command -/
  | readStatus
  /-- FOREIGN_TRANSACTION: the unrecognised command byte `b` -/
  | foreignTransaction (b : Byte)
  /-- TRANSACTION_END: the upstream select rises -/
  | transactionEnd
  /-- REPLY_START: a low level begins within the reply window -/
  | replyStart
  deriving DecidableEq, Repr

end Sys2Proof
end

