-- ==== Sys2Proof/Decode.lean ====
section
/-! DEFINITION. The IP340's commands are events of its ports, sensors and timers, and no row of spec/opcode_table.json gives bits. The
one code the spec gives commands is that of the memory link: a transaction's command byte and address bytes (R181, Table 9-1). -/

namespace Sys2Proof

/-- The commands of the memory link (Table 9-1). -/
inductive LinkCommand where
  | read
  | write
  | setLatch
  | clearLatch
  | readStatus
  | foreign
  deriving DecidableEq, Repr

/-- The command that a transaction's first complete byte gives; a byte Table 9-1 does not list makes it foreign (R181). -/
def linkCommand (b : Byte) : LinkCommand :=
  if b = 0x03 then .read
  else if b = 0x02 then .write
  else if b = 0x06 then .setLatch
  else if b = 0x04 then .clearLatch
  else if b = 0x05 then .readStatus
  else .foreign

/-- The address phase of a READ or WRITE, of the complete bytes after its command byte: high byte first (R181). -/
def addressPhase : List Byte → AddrPhase
  | [] => .absent
  | [hi] => .high hi
  | hi :: lo :: _ => .full (hi ++ lo)

/-- The command that starts a transaction whose complete bytes are those given, the first its command byte (R181, Table 9-1). -/
def linkStart : List Byte → Option Instr
  | [] => none
  | b :: rest =>
    some (match linkCommand b with
      | .read => .read (addressPhase rest)
      | .write => .write (addressPhase rest)
      | .setLatch => .setLatch
      | .clearLatch => .clearLatch
      | .readStatus => .readStatus
      | .foreign => .foreignTransaction b)

/-- Byte `i` of a word, numbered from its least significant. -/
def wordByte (w i : Nat) : Byte := BitVec.ofNat 8 (w / 2 ^ (8 * i))

/-- The command that a word of `nbits` bits spells. No row of the opcode table gives bits, so the word is read as the first three bytes
of a memory-link transaction, the command byte lowest and every bit above `nbits` 0 (assumption 29). -/
def decodeTableWord (nbits w : Nat) : Option Instr :=
  if nbits < 8 then none
  else
    let v := w % 2 ^ nbits
    linkStart [wordByte v 0, wordByte v 1, wordByte v 2]

end Sys2Proof
end

