-- ==== Sys2Proof/Config.lean ====
section
/-! DEFINITION. What the spec leaves to the world outside the part: the sensor readings of a recurring period that the
part starts by itself. Each constant has no body, so nothing can be proved of the reading; the model applies it to a
counter of `State` that every use advances (assumption 2). -/

namespace Sys2Proof.Config

/-- Free value: the lamp supply reading Vs of a lamp period that no command brought (R71, R87). -/
opaque lampSupply : Nat → Code10

/-- Free value: the lamp current reading Im of a lamp period that no command brought (R73, R74). -/
opaque lampCurrent : Nat → Code10

/-- Free value: the gate sensor code of a cooling period that no command brought (R92). -/
opaque gateSensor : Nat → Code10

/-- Free value: the lamp-house sensor code of a cooling period that no command brought (R92). -/
opaque houseSensor : Nat → Code10

/-- Free value: the line voltage reading of a detect period that no command brought (R146). -/
opaque lineVoltage : Nat → Code10

end Sys2Proof.Config
end

