-- ==== Sys2Proof/Machine/State.lean ====
section
/-! DEFINITION. Every piece of state the spec gives the IP340, block by block, and the state after power-on reset.
INVENTORY.md lists each field with its rule and its reset value. -/

namespace Sys2Proof.Machine

/-! ### Shapes shared by the blocks -/

/-- A sparse store: (key, value) pairs with strictly rising keys. For bytes, an unlisted key reads as 0 and no listed
byte is 0, so that equal contents are equal data (`Memory.wf`). -/
abbrev Assoc (α : Type) := List (Nat × α)

/-- The bytes of a mirror or of a capture. -/
abbrev Bytes := List Host.Cell

/-- A timer: stopped, or running with the moment (on `Clock.now`, in µs) at which it expires. -/
abbrev Timer := Option Nat

/-- A timer that can be paused: `left` µs remain while it stands still, `due` is its expiry while it runs. -/
structure PauseTimer where
  left : Nat
  due : Timer
  deriving DecidableEq, Repr

/-- Bytes with a capture flag each (R184, R187, R188): `marks` lists the offsets whose flag is set. -/
structure Capture where
  bytes : Bytes
  marks : Assoc Unit
  deriving DecidableEq, Repr

/-- The part's clocks. `now` (µs) is the model's own time base for timers; `subMs` is the part of a millisecond the
show clock has not yet counted. The last four are the recurring periods that no other record owns. -/
structure Clock where
  now : Nat
  subMs : Nat
  showClock : Clock32
  micros : Clock32
  lampPeriod : Timer
  coolingPeriod : Timer
  usageTick : Timer
  audioPeriod : Timer
  deriving DecidableEq, Repr

/-! ### The cue engine (Chapter 1) -/

/-- Table 1-3. -/
inductive RunState where
  | stopped
  | running
  | held
  | learning
  deriving DecidableEq, Repr

/-- The sources of a cue (Table 1-5). -/
inductive CueSource where
  | tape
  | handset
  | link
  | control
  deriving DecidableEq, Repr

/-- The kinds of a cue with the field each carries (Table 1-5). -/
inductive CueKind where
  | numbered (n : Word)
  | advance
  | reverse
  | goto (slot : Nat)
  | hold
  | endShow
  deriving DecidableEq, Repr

/-- A cue record (Table 1-5). -/
structure Cue where
  source : CueSource
  kind : CueKind
  arrival : Clock32
  start : Option Clock32
  deriving DecidableEq, Repr

/-- Program actions (Table 1-2). -/
inductive Action where
  | nop
  | changeFwd
  | changeRev
  | goto
  | fade
  | audio
  | hold
  | endShow
  deriving DecidableEq, Repr

/-- The clamped values an execution keeps (R2), or a plain action's values (R12): `entry` is none for a plain action,
whose cue number is 0xFFFF. -/
structure Plan where
  cueNo : Word
  entry : Option Nat
  action : Action
  slot : Nat
  fadeOut : Nat
  fadeIn : Nat
  level : Nat
  audio : Option Nat
  broadcast : Bool
  early : Bool
  expected : Option Nat
  deriving DecidableEq, Repr

/-- The phases of the executing cue (R18). -/
inductive CuePhase where
  | waiting
  | fadingOut
  | changing
  | fadingIn
  deriving DecidableEq, Repr

/-- The executing cue record (R18). `awaiting`: the ramp it requested in its phase is outstanding. `cycle`: a change cycle
of its own is in flight. `seat`: the gate-seated timestamp of its cycle, when that cycle ended with one (R24). -/
structure Executing where
  source : CueSource
  kind : CueKind
  plan : Plan
  startMs : Clock32
  startUs : Clock32
  phase : CuePhase
  awaiting : Bool
  cycle : Bool
  stopping : Bool
  seat : Option Clock32
  deriving DecidableEq, Repr

/-- The cue engine's state. The armed set is computed from it (R4). -/
structure Engine where
  runState : RunState
  pointer : Nat
  lastCue : Word
  queue : List Cue
  cue : Option Executing
  deriving DecidableEq, Repr

/-! ### The slide transport (Chapter 2) -/

/-- Table 2-1. -/
inductive TransportState where
  | unhomed
  | ready
  | cycling
  | jammed
  | noTray
  deriving DecidableEq, Repr

/-- Table 2-2; `none` is phase 0, the phase of every state but CYCLING. -/
inductive Phase where
  | none
  | camHome
  | lift
  | park
  | drop
  | seat
  | retry
  deriving DecidableEq, Repr

/-- Table 2-7. -/
inductive JamCause where
  | noIndex
  | cam
  | lift
  | seat
  | tray
  deriving DecidableEq, Repr

/-- Table 2-5. -/
inductive CamFunction where
  | disabled
  | shutter
  | trayFree
  | liftCheck
  | focusHold
  | aux
  deriving DecidableEq, Repr

/-- One window of the latched cam table (R37). -/
structure CamWindow where
  fn : CamFunction
  on : Nat
  off : Nat
  deriving DecidableEq, Repr

/-- The table and park angle latched for a cycle (R37). -/
structure CamTable where
  windows : List CamWindow
  park : Nat
  deriving DecidableEq, Repr

/-- The direction of a tray move. -/
inductive Dir where
  | forward
  | reverse
  deriving DecidableEq, Repr

/-- How a tray move stands: prepared but not begun (R40), stepping, suspended for want of a TRAY_FREE window (R33), or in a
stall pause (R34). -/
inductive MoveStatus where
  | prepared
  | stepping
  | suspended
  | paused
  deriving DecidableEq, Repr

/-- A tray move (R31, R32) or the search leg of a homing move (R49). `done` is j, the steps taken in the present profile;
`remaining` the steps to the target; `searched` the steps a search has taken. -/
structure Move where
  search : Bool
  target : Nat
  dir : Dir
  status : MoveStatus
  done : Nat
  remaining : Nat
  searched : Nat
  rStart : Nat
  rAcc : Nat
  rMax : Nat
  deriving DecidableEq, Repr

/-- The focus motor (R54). -/
inductive FocusMotor where
  | stopped
  | inward
  | outward
  deriving DecidableEq, Repr

/-- A request of the cue engine to the transport (R30). -/
inductive ChangeRequest where
  | fwd
  | rev
  | goto (slot : Nat)
  deriving DecidableEq, Repr

/-- The slide transport's state. `size` is the tray size latched at the cycle's start, `sizeChanged` that S in force changed
while the cycle was in flight (R29); `retried` that the cycle has used its RETRY; `focusKey` the focus key whose hold the
allowance belongs to (R55). The shutter, the auxiliary output and the focus inhibit are computed (R38). -/
structure Transport where
  state : TransportState
  phase : Phase
  stepCount : Option Nat
  position : Option Nat
  camAngle : Option Nat
  camRunning : Bool
  camTimer : PauseTimer
  table : Option CamTable
  substituted : Bool
  size : Nat
  sizeChanged : Bool
  target : Nat
  move : Option Move
  stepTimer : Timer
  stalls : Nat
  stallTimer : Timer
  seatTimer : Timer
  retried : Bool
  jamCause : Option JamCause
  gate : GateReading
  seatedAt : Option Clock32
  slotInGate : Option Nat
  focus : FocusMotor
  focusKey : Option Dir
  focusAllowance : PauseTimer
  deriving DecidableEq, Repr

/-! ### The lamp controller (Chapter 3) -/

/-- Table 3-1. -/
inductive LampState where
  | off
  | lit
  | swapping
  | fault
  deriving DecidableEq, Repr

/-- The two sockets of the carriage. -/
inductive Socket where
  | primary
  | spare
  deriving DecidableEq, Repr

/-- The state of a socket (R58). -/
inductive SocketState where
  | good
  | failed
  deriving DecidableEq, Repr

/-- The carriage position as the end switches report it (R58). -/
inductive CarriagePosition where
  | primary
  | spare
  | unknown
  deriving DecidableEq, Repr

/-- The two off requests (R61). -/
inductive OffRequest where
  | control
  | power
  deriving DecidableEq, Repr

/-- The requester of a lamp ramp (R64). -/
inductive Requester where
  | engine
  | off
  deriving DecidableEq, Repr

/-- The lamp ramp record (R64). -/
structure Ramp where
  l0 : Nat
  l1 : Nat
  n : Nat
  k : Nat
  active : Bool
  requester : Option Requester
  deriving DecidableEq, Repr

/-- What the lamp controller counts for one socket (R80, R81). -/
structure Usage where
  dark : Nat
  seconds : Nat
  minutes : Nat
  starts : Nat
  deriving DecidableEq, Repr

/-- The lamp controller's state. `duty` is the duty in force and Dprev: the rules set the two together everywhere
(assumption 10). `swapStart` is the motor's start on `Clock.now`; the motor runs while the lamp is SWAPPING (R59). -/
structure Lamp where
  state : LampState
  goingOff : Option OffRequest
  level : Nat
  ramp : Ramp
  duty : Nat
  primary : SocketState
  spare : SocketState
  endPrimary : Bool
  endSpare : Bool
  active : Socket
  carriageTimer : Timer
  swapStart : Nat
  failureSwap : Bool
  openCount : Nat
  lowCount : Nat
  usePrimary : Usage
  useSpare : Usage
  deriving DecidableEq, Repr

/-! ### The cooling and power unit (Chapter 4) -/

/-- Table 4-1. -/
inductive PowerState where
  | standby
  | runup
  | on
  | shutdown
  deriving DecidableEq, Repr

/-- The thermal band (R93). -/
inductive Band where
  | normal
  | warm
  | hot
  deriving DecidableEq, Repr

/-- The fan watch (R97). -/
inductive FanWatch where
  | off
  | spinUp
  | watching
  | failed
  deriving DecidableEq, Repr

/-- The cooling and power unit's state. Mains enable is computed from the power state (R85). `gapTimer` is the gap timer of
WATCHING and the gap of a recovery run in FAILED; `recovery` the 1 s of that run; `handed` the duty of the lamp period last
completed, as the lamp controller handed it over, which the usage tick reads too (R72, R81, R95). -/
structure Power where
  state : PowerState
  runupCount : Nat
  runupTimer : Timer
  runupVs : Nat
  gateTemp : Nat
  houseTemp : Nat
  band : Band
  smoothed : Nat
  handed : Nat
  fanDuty : Nat
  fanWatch : FanWatch
  spinTimer : Timer
  gapTimer : Timer
  recovery : Timer
  owed : Bool
  cooldown : Nat
  deriving DecidableEq, Repr

/-! ### The deck unit (Chapter 5) -/

/-- Table 5-1. -/
inductive DeckMode where
  | stop
  | play
  | record
  | fastFwd
  | rewind
  | braking
  deriving DecidableEq, Repr

/-- The content of the pending mode slot: a mode, or the locate of R108. -/
inductive PendingMode where
  | mode (m : DeckMode)
  | locate
  deriving DecidableEq, Repr

/-- The audio ramp record (R112). -/
structure AudioRamp where
  a0 : Nat
  a1 : Nat
  n : Nat
  k : Nat
  active : Bool
  deriving DecidableEq, Repr

/-- The deck unit's state. `brakeDir` is true for the braking direction +1. -/
structure Deck where
  mode : DeckMode
  pending : Option PendingMode
  brakeForward : Bool
  brakeTimer : Timer
  locate : Option Int
  endWatch : Timer
  counter : Int
  tapeTime : Option Nat
  second : PauseTimer
  audio : Nat
  ramp : AudioRamp
  deriving DecidableEq, Repr

/-! ### The cue-track unit: decoder (Chapter 5) and writer (Chapter 6) -/

/-- Table 5-2. -/
inductive DecoderState where
  | off
  | hunt
  | preamble
  | sync
  | data
  | trailer
  deriving DecidableEq, Repr

/-- The last accepted frame (R127). -/
structure AcceptedFrame where
  kind : Nat
  sequence : Nat
  data : List Byte
  time : Clock32
  deriving DecidableEq, Repr

/-- The decoder's state. `runCount`, `runSum`, `runHalf` are the hunt run of R118; `half` is the pending half of R121, `bits`
the bits of the character in assembly (oldest first) and `chars` the characters of the frame (R122). -/
structure Decoder where
  ring : List Clock32
  overflows : Nat
  state : DecoderState
  cell : Nat
  reference : Option Clock32
  runCount : Nat
  runSum : Nat
  runHalf : Option Nat
  half : Option Nat
  bits : List Bool
  chars : List Byte
  accepted : Option AcceptedFrame
  errors : Nat
  passTimer : Timer
  deriving DecidableEq, Repr

/-- The symbol of a placed cell (R130). -/
inductive Symbol where
  | one
  | zero
  | sync
  deriving DecidableEq, Repr

/-- The writer's state (R130). `slots` lists the occupied slots 0..255. `level` is the cue output line; `cellStart` and
`midDone` say when the cell in progress began and whether its middle has passed (R132). -/
structure Writer where
  slots : Assoc Symbol
  pointer : Nat
  sequence : Nat
  syncRun : Nat
  level : Bool
  cellTimer : Timer
  cellStart : Nat
  midDone : Bool
  deriving DecidableEq, Repr

/-! ### The line unit (Chapter 7) -/

/-- The line role (R144). -/
inductive Role where
  | lead
  | follower
  deriving DecidableEq, Repr

/-- Table 7-1. -/
inductive LineState where
  | off
  | detect
  | powering
  | idle
  | sending
  | awaiting
  | receiving
  | retryWait
  | lineFault
  | listening
  deriving DecidableEq, Repr

/-- The frames a lead sends, with the data each carries (Table 7-2). -/
inductive LineMsg where
  | poll (station : Nat)
  | cue (number t16 : Word)
  | advance (t16 : Word)
  | reverse (t16 : Word)
  | hold (t16 : Word)
  | stop
  | resume
  | endShow (t16 : Word)
  | sync (clock : Clock32)
  deriving DecidableEq, Repr

/-- One record of the station table (R160). -/
structure Station where
  present : Bool
  misses : Nat
  last : Option (List Byte)
  deriving DecidableEq, Repr

/-- The line unit's state. The supply switch and the detect current are computed from the line state (R145). `current` is the
frame in SENDING, or the POLL whose exchange runs; `bit` the bit time of that frame (µs); `lineOut` the bytes of the frame the
part last drove on the line; `badFrame` that a reply in RECEIVING had a framing error (R154); `holdOff` that the lead in IDLE
waits for 4b of high level before it sends (R154). `offset`, `syncHeld`, `syncWatch` and `errors` are the follower's. -/
structure Line where
  role : Role
  state : LineState
  discharge : Timer
  detectPeriod : Timer
  detectCount : Nat
  settle : Timer
  overcurrents : Nat
  quiet : Timer
  retry : Timer
  noAnswer : Timer
  queue : List LineMsg
  syncDue : Bool
  syncTimer : Timer
  pollList : List Nat
  pollPeriod : Timer
  robin : Nat
  current : Option LineMsg
  bit : Nat
  frameEnd : Timer
  window : Timer
  badFrame : Bool
  holdOff : Bool
  lineOut : List Byte
  handset : Station
  follower1 : Station
  follower2 : Station
  follower3 : Station
  offset : Option Clock32
  syncHeld : Bool
  syncWatch : Timer
  errors : Nat
  deriving DecidableEq, Repr

/-! ### The handset logic (Chapter 8) -/

/-- The auto-repeat of ADVANCE (R176). -/
inductive AutoRepeat where
  | none
  | timing
  | repeating
  deriving DecidableEq, Repr

/-- The handset logic's state. `report` is the key code and held flag of the last good reply, none for "no key held". The
display is computed (R177). -/
structure Handset where
  lastCount : Option Nat
  lastReport : Option Clock32
  report : Option (Byte × Bool)
  entry : List Nat
  entryTimer : Timer
  errTimer : Timer
  autoRepeat : AutoRepeat
  holdTimer : Timer
  economy : Bool
  deriving DecidableEq, Repr

/-! ### The show log (Chapter 10) -/

/-- Table 10-2. -/
inductive LogKind where
  | cueRun
  | cueSkipped
  | cueUnexpected
  | cueRefused
  | cueDropped
  | cueLate
  | entryInvalid
  | drift
  | emptySlot
  | jam
  | traySlip
  | trayPulled
  | lampFailed
  | lampSwapped
  | noLamp
  | thermal
  | fanFailed
  | supply
  | tapeEnd
  | recordMissed
  | frameWritten
  | lineFault
  | stationLost
  | syncStep
  | syncLost
  | power
  | map
  | cueFadeCut
  | linkDropped
  deriving DecidableEq, Repr

/-- Table 10-1: a cue's source, or the block that posted the entry. -/
inductive LogSource where
  | cue (c : CueSource)
  | transport
  | lamp
  | cooling
  | deck
  | cueTrack
  | line
  | path
  deriving DecidableEq, Repr

/-- One entry of the log ring (Table 11-8); the spare byte is always 0. -/
structure LogEntry where
  sequence : Word
  kind : LogKind
  source : LogSource
  time : Clock32
  cueNo : Word
  slot : Byte
  detail1 : Word
  detail2 : Word
  deriving DecidableEq, Repr

/-- The sixteen fault flags (Table 10-4). -/
inductive FaultFlag where
  | mapFault
  | camDefault
  | jam
  | traySlip
  | trayPulled
  | primaryFailed
  | spareFailed
  | noLamp
  | carriage
  | fanFailed
  | thermalHot
  | supply
  | tapeEnd
  | lineFault
  | stationLost
  | logOverflow
  deriving DecidableEq, Repr

/-- The show log and the fault flags: bit n of `flags` is flag n (R207). -/
structure ShowLog where
  ring : List LogEntry
  next : Word
  lost : Nat
  flags : Word
  deriving DecidableEq, Repr

/-! ### The memory path (Chapter 9) -/

/-- An adopted map (R186). -/
structure MapInfo where
  count : Nat
  program : Nat
  settings : Nat
  live : Nat
  deriving DecidableEq, Repr

/-- The map state with the adopted map, which only MAPPED has (R186). -/
inductive MapState where
  | unmapped
  | mapped (m : MapInfo)
  | mapFault
  deriving DecidableEq, Repr

/-- The values a READ is answered from (R192): the 24 live bytes with each record's loaded state, the 32 bytes of the status
record, the control record's read-back and the oldest log entries. -/
structure Snapshot where
  live : List Byte
  showLoaded : Bool
  usageLoaded : Bool
  tapeLoaded : Bool
  status : List Byte
  code : Byte
  result : Byte
  log : List LogEntry
  deriving DecidableEq, Repr

/-- The kind of the transaction in progress. `passing` is one the path takes no notice of: READ STATUS, a foreign one, or one that a
reset met (R181, R201). `latching` is SET LATCH or CLEAR LATCH, with the value the latch shadow takes at its end (R182). -/
inductive TxnKind where
  | passing
  | latching (shadow : Bool)
  | read (snap : Snapshot)
  | write (shadow : Bool)
  deriving DecidableEq, Repr

/-- The transaction in progress. `live` holds the live-region bytes passed from memory (READ) or forwarded (WRITE), `absorbed`
the bytes absorbed into the status and control records by address, `logRead` the offsets of the log view read,
`settingsSeen` the settings offsets captured, `wasComplete` whether the settings block was complete at the start. -/
structure Txn where
  kind : TxnKind
  addr : Word
  headerTouched : Bool
  wasComplete : Bool
  settingsSeen : Assoc Unit
  live : Assoc Byte
  absorbed : Assoc Byte
  logRead : Assoc Unit
  deriving DecidableEq, Repr

/-- The memory path's state. `legOpen` is the downstream select of the transaction in progress (true while it is low),
`legBytes` every byte the memory has received in the present or last downstream leg, `upOut` the byte last sent to the host. -/
structure Path where
  header : Capture
  map : MapState
  program : Capture
  mirror : Capture
  settings : Bytes
  showLoaded : Bool
  usageLoaded : Bool
  tapeLoaded : Bool
  latch : Bool
  declined : Nat
  partialLive : Nat
  reqCode : Byte
  reqResult : Byte
  txn : Option Txn
  legOpen : Bool
  legBytes : List Byte
  upOut : Option Byte
  deriving DecidableEq, Repr

/-! ### The whole part -/

/-- The IP340 with the queue of the commands waiting at its ports. `free` counts the free readings used (assumption 2). -/
structure State where
  pending : List Instr
  free : Nat
  clock : Clock
  engine : Engine
  transport : Transport
  lamp : Lamp
  power : Power
  deck : Deck
  decoder : Decoder
  writer : Writer
  line : Line
  handset : Handset
  log : ShowLog
  path : Path
  deriving DecidableEq, Repr

/-- Why the machine stops with a fault: never. The spec names no command of the IP340 that stops the part: what the part calls a
fault is a flag and a log entry, and the part runs on. The type has no constructor, so that every meaning answers a next
state. -/
inductive Fault where
  deriving DecidableEq, Repr

/-- Why the machine refuses a command. -/
inductive Refusal where
  /-- Raised by `exec` alone, for a command that has no meaning yet. No arm raises it: every command has its meaning. Safe:
  a refusal proves nothing about the part. -/
  | notModelled (mnemonic : String)
  deriving DecidableEq, Repr

/-! ### The state after power-on reset -/

/-- The bytes of the default settings block that are not 0 (Table 9-4 in the layout of Table 11-3), offsets 0..43. -/
def defaultSettingsLow : Bytes :=
  [(0, 80), (1, 8), (2, 0x90), (3, 0x01), (4, 20), (6, 0x60), (7, 0x09), (8, 20), (9, 60), (10, 30), (11, 150),
   (12, 1), (13, 10), (14, 170), (16, 2), (17, 40), (18, 120), (20, 3), (21, 35), (22, 36)]

/-- The default curve of R68 as settings bytes, offsets 44..77. -/
def defaultSettingsCurve : Bytes :=
  [(46, 40), (48, 120), (50, 240), (52, 0x90), (53, 0x01), (54, 0x58), (55, 0x02), (56, 0x48), (57, 0x03),
   (58, 0x60), (59, 0x04), (60, 0xA0), (61, 0x05), (62, 0x08), (63, 0x07), (64, 0x98), (65, 0x08), (66, 0x28), (67, 0x0A),
   (68, 0xB8), (69, 0x0B), (70, 0x16), (71, 0x0D), (72, 0x42), (73, 0x0E), (74, 0x3C), (75, 0x0F), (76, 0xFF), (77, 0x0F)]

/-- The rest of the default settings block, offsets 78..127. -/
def defaultSettingsHigh : Bytes :=
  [(80, 0xB8), (81, 0x0B), (82, 0x20), (83, 0x03), (84, 64), (86, 12), (88, 100), (90, 50), (92, 50), (94, 200),
   (96, 40), (98, 0xE8), (99, 0x03), (100, 55), (101, 70), (102, 110), (103, 50), (104, 60), (105, 80), (106, 255),
   (107, 30), (108, 48), (109, 1), (111, 1), (112, 60), (114, 5)]

/-- The default settings in force (R189). -/
def defaultSettings : Bytes := defaultSettingsLow ++ defaultSettingsCurve ++ defaultSettingsHigh

/-- A capture with no flag set; its bytes are 0 until a byte passes (assumption 5). -/
def emptyCapture : Capture := { bytes := [], marks := [] }

/-- A station record after either reset (R167). -/
def absentStation : Station := { present := false, misses := 0, last := none }

/-- The clocks after a reset: the show clock at 0 (section 1.6), every recurring period begun at the reset. `micros` is given
because only power-on reset sets the microsecond counter (assumption 4). -/
def resetClock (now : Nat) (micros : Clock32) : Clock :=
  { now := now, subMs := 0, showClock := 0, micros := micros,
    lampPeriod := some (now + 10000), coolingPeriod := some (now + 100000),
    usageTick := some (now + 1000000), audioPeriod := some (now + 10000) }

/-- The cue engine after either reset (R28). -/
def resetEngine : Engine :=
  { runState := .stopped, pointer := 0, lastCue := 0xFFFF, queue := [], cue := none }

/-- The slide transport after either reset (R57). -/
def resetTransport (r : ResetSense) : Transport :=
  { state := if r.tray then .unhomed else .noTray, phase := .none, stepCount := none, position := none,
    camAngle := if r.camAtIndex then some 0 else none, camRunning := false, camTimer := { left := 0, due := none },
    table := none, substituted := false, size := 80, sizeChanged := false, target := 0, move := none, stepTimer := none,
    stalls := 0, stallTimer := none, seatTimer := none, retried := false, jamCause := none, gate := r.gate,
    seatedAt := none, slotInGate := none, focus := .stopped, focusKey := none,
    focusAllowance := { left := 4000000, due := none } }

/-- The carriage position that the two end switches report (R58). -/
def carriageOf (endPrimary endSpare : Bool) : CarriagePosition :=
  match endPrimary, endSpare with
  | true, false => .primary
  | false, true => .spare
  | _, _ => .unknown

/-- The active socket after a reset: the carriage position, or PRIMARY where it is UNKNOWN (R83). -/
def resetSocket (r : ResetSense) : Socket :=
  match carriageOf r.endPrimary r.endSpare with
  | .spare => .spare
  | _ => .primary

/-- The counts of one socket after power-on reset (R83). -/
def freshUsage : Usage := { dark := 6000, seconds := 0, minutes := 0, starts := 0 }

/-- The lamp controller after power-on reset (R83). -/
def resetLamp (r : ResetSense) : Lamp :=
  { state := .off, goingOff := none, level := 0,
    ramp := { l0 := 0, l1 := 0, n := 0, k := 0, active := false, requester := none },
    duty := 0, primary := .good, spare := .good, endPrimary := r.endPrimary, endSpare := r.endSpare,
    active := resetSocket r, carriageTimer := none, swapStart := 0, failureSwap := false, openCount := 0, lowCount := 0,
    usePrimary := freshUsage, useSpare := freshUsage }

/-- The cooling and power unit after power-on reset (R101). -/
def resetPower : Power :=
  { state := .standby, runupCount := 0, runupTimer := none, runupVs := 0, gateTemp := 0, houseTemp := 0, band := .normal,
    smoothed := 0, handed := 0, fanDuty := 0, fanWatch := .off, spinTimer := none, gapTimer := none, recovery := none,
    owed := false, cooldown := 0 }

/-- The deck unit after power-on reset (R129). -/
def resetDeck : Deck :=
  { mode := .stop, pending := none, brakeForward := true, brakeTimer := none, locate := none, endWatch := none,
    counter := 0, tapeTime := none, second := { left := 1000000, due := none }, audio := 0,
    ramp := { a0 := 0, a1 := 0, n := 0, k := 0, active := false } }

/-- The cue-track decoder after either reset (R129). -/
def resetDecoder : Decoder :=
  { ring := [], overflows := 0, state := .off, cell := 2000, reference := none, runCount := 0, runSum := 0, runHalf := none,
    half := none, bits := [], chars := [], accepted := none, errors := 0, passTimer := none }

/-- The writer after either reset (R143). -/
def resetWriter : Writer :=
  { slots := [], pointer := 0, sequence := 0, syncRun := 0, level := false, cellTimer := none, cellStart := 0, midDone := false }

/-- The line unit after either reset: a lead in DETECT, for the default settings leave the role bit clear (R167). -/
def resetLine (now : Nat) : Line :=
  { role := .lead, state := .detect, discharge := none, detectPeriod := some (now + 10000), detectCount := 0,
    settle := none, overcurrents := 0, quiet := none, retry := none, noAnswer := none, queue := [],
    syncDue := false, syncTimer := none, pollList := [], pollPeriod := none, robin := 3, current := none, bit := 500,
    frameEnd := none, window := none, badFrame := false, holdOff := false, lineOut := [], handset := absentStation,
    follower1 := absentStation, follower2 := absentStation, follower3 := absentStation,
    offset := none, syncHeld := false, syncWatch := none, errors := 0 }

/-- The handset logic after either reset (R180). -/
def resetHandset : Handset :=
  { lastCount := none, lastReport := none, report := none, entry := [], entryTimer := none, errTimer := none,
    autoRepeat := .none, holdTimer := none, economy := false }

/-- The show log and the flags after power-on reset, when no flag's condition holds (R210). -/
def resetLog : ShowLog := { ring := [], next := 0, lost := 0, flags := 0 }

/-- The memory path after power-on reset (R201). -/
def resetPath : Path :=
  { header := emptyCapture, map := .unmapped, program := emptyCapture, mirror := emptyCapture, settings := defaultSettings,
    showLoaded := false, usageLoaded := false, tapeLoaded := false, latch := false, declined := 0, partialLive := 0,
    reqCode := 0, reqResult := 0, txn := none, legOpen := false, legBytes := [], upOut := none }

/-- The part right after power-on reset with the sensors at `r`. -/
def resetState (r : ResetSense) : State :=
  { pending := [], free := 0, clock := resetClock 0 0, engine := resetEngine, transport := resetTransport r,
    lamp := resetLamp r, power := resetPower, deck := resetDeck, decoder := resetDecoder, writer := resetWriter,
    line := resetLine 0, handset := resetHandset, log := resetLog, path := resetPath }

/-- The sensors at the reset that `State.reset` stands for: a tray on the projector, the cam at its index, no slide in the
gate, the carriage at its PRIMARY stop (assumption 3). -/
def restingSense : ResetSense :=
  { tray := true, camAtIndex := true, gate := .empty, endPrimary := true, endSpare := false }

/-- The machine right after reset. -/
def State.reset : State := resetState restingSense

end Sys2Proof.Machine
end

