-- ==== Sys2Proof/Machine/Memory.lean ====
section
/-! DEFINITION. The named operations over the part's addressed stores: the mirrors and captures of the memory path, the bytes
noted in a transaction, and the writer's slots. -/

namespace Sys2Proof.Machine

/-- The value stored at key `k`, if any. -/
def assocGet {α : Type} : Assoc α → Nat → Option α
  | [], _ => none
  | (i, v) :: t, k => if i = k then some v else assocGet t k

/-- Stores `v` at key `k`, keeping the keys strictly rising. -/
def assocSet {α : Type} : Assoc α → Nat → α → Assoc α
  | [], k, v => [(k, v)]
  | (i, w) :: t, k, v =>
    if k < i then (k, v) :: (i, w) :: t
    else if i = k then (k, v) :: t
    else (i, w) :: assocSet t k v

/-- Removes key `k`. -/
def assocErase {α : Type} : Assoc α → Nat → Assoc α
  | [], _ => []
  | (i, w) :: t, k => if i = k then t else (i, w) :: assocErase t k

/-- Whether key `k` is listed. -/
def assocHas {α : Type} (m : Assoc α) (k : Nat) : Bool := (assocGet m k).isSome

/-- Whether the keys rise strictly from a key of at least `lo`. -/
def assocSortedFrom {α : Type} : Nat → Assoc α → Bool
  | _, [] => true
  | lo, (i, _) :: t => decide (lo ≤ i) && assocSortedFrom (i + 1) t

/-- Whether the keys rise strictly. -/
def assocSorted {α : Type} (m : Assoc α) : Bool := assocSortedFrom 0 m

/-- What an unlisted byte reads as: no byte of a mirror is read before its capture flag is set, and the settings in force
list every byte that is not 0 (assumption 5). -/
def unlistedByte : Byte := 0

/-- One byte of a store. -/
def byteAt (m : Bytes) (k : Nat) : Byte := (assocGet m k).getD unlistedByte

/-- Writes one byte, keeping the canonical form: the byte an unlisted key reads as is not listed. -/
def setByte (m : Bytes) (k : Nat) (b : Byte) : Bytes :=
  if b = unlistedByte then assocErase m k else assocSet m k b

/-- The canonical form of a byte store: keys strictly rising, and no listed byte that an unlisted key would read as. -/
def Memory.wf (m : Bytes) : Bool :=
  assocSorted m && m.all (fun c => decide (c.2 ≠ unlistedByte))

/-- A byte passes at offset `k`: it is copied and its capture flag set (R184, R187, R188). -/
def captureByte (c : Capture) (k : Nat) (b : Byte) : Capture :=
  { bytes := setByte c.bytes k b, marks := assocSet c.marks k () }

/-- Whether the capture flag at offset `k` is set. -/
def captured (c : Capture) (k : Nat) : Bool := assocHas c.marks k

/-- Whether every capture flag of the `n` offsets from `lo` is set. -/
def capturedAll (c : Capture) (lo : Nat) : Nat → Bool
  | 0 => true
  | n + 1 => captured c (lo + n) && capturedAll c lo n

/-- Clears every capture flag; the bytes stay (R186). -/
def clearMarks (c : Capture) : Capture := { bytes := c.bytes, marks := [] }

/-- Whether every key of the `n` from `lo` is listed. -/
def assocHasAll {α : Type} (m : Assoc α) (lo : Nat) : Nat → Bool
  | 0 => true
  | n + 1 => assocHas m (lo + n) && assocHasAll m lo n

/-- Whether some key of the `n` from `lo` is listed. -/
def assocHasAny {α : Type} (m : Assoc α) (lo : Nat) : Nat → Bool
  | 0 => false
  | n + 1 => assocHas m (lo + n) || assocHasAny m lo n

/-- The canonical form of a capture. -/
def captureWf (c : Capture) : Bool := Memory.wf c.bytes && assocSorted c.marks

end Sys2Proof.Machine
end

