-- ==== Sys2Proof/Machine/Operands.lean ====
section
/-! DEFINITION. The fields the commands read: the settings in force with the range each block takes them in, program entries,
the numbers of the coded fields, and the byte layouts of Chapter 11. -/

namespace Sys2Proof.Machine

/-! ### Numbers -/

/-- A value outside its range is taken as the nearer end of it (section 1.6, Clamping). -/
def clamp (lo hi x : Nat) : Nat := max lo (min hi x)

/-- A saturating counter's next value (section 1.6, Saturating counters). -/
def satInc (top x : Nat) : Nat := min top (x + 1)

/-- The point k/n of the way from `a` to `b`: `a + trunc((b − a) × k / n)`, the quotient truncated toward zero (R65, R112). -/
def lerp (a b k n : Nat) : Nat :=
  if a ≤ b then a + (b - a) * k / n else a - (a - b) * k / n

/-- `a + trunc((b − a) / 8)` (R95, R121). -/
def stepEighth (a b : Nat) : Nat := if a ≤ b then a + (b - a) / 8 else a - (a - b) / 8

/-- Milliseconds from `t` to `now` on a 32-bit clock. -/
def elapsed (now t : Clock32) : Nat := (now - t).toNat

/-- A time on the show clock has passed when the clock minus that time, modulo 2^32, is below 2^31 (R17). -/
def hasPassed (now t : Clock32) : Bool := decide (elapsed now t < 2147483648)

/-- The low and high byte of a two-byte field, in the order they lie in a record (section 1.6, Byte order). -/
def wordBytes (w : Word) : List Byte := [w.setWidth 8, (w >>> 8).setWidth 8]

/-- The four bytes of a four-byte field, least significant first. -/
def clockBytes (c : Clock32) : List Byte :=
  [c.setWidth 8, (c >>> 8).setWidth 8, (c >>> 16).setWidth 8, (c >>> 24).setWidth 8]

/-- A two-byte little-endian field from its bytes. -/
def wordOf (lo hi : Byte) : Word := hi ++ lo

/-- A four-byte little-endian field from its bytes. -/
def clockOf (b0 b1 b2 b3 : Byte) : Clock32 := (b3 ++ b2) ++ (b1 ++ b0)

/-- A number as the byte that shows it. -/
def toByte (n : Nat) : Byte := BitVec.ofNat 8 n

/-- A number as a two-byte field. -/
def toWord (n : Nat) : Word := BitVec.ofNat 16 n

/-- A slot as the byte that shows it, 0xFF when unknown (R56). -/
def slotByte : Option Nat → Byte
  | some p => toByte p
  | none => 0xFF

/-! ### Fixed times, in µs (section 1.6, Periods, and the rule each names) -/

/-- One unit of the times in records: 10 ms. -/
def tenMs : Nat := 10000
/-- The lamp period and the audio period. -/
def lampPeriodUs : Nat := 10000
/-- The cooling period (R92). -/
def coolingPeriodUs : Nat := 100000
/-- One second: the usage tick (R81), the tape second (R111), the retry timer (R148), the hold timer (R176). -/
def oneSecond : Nat := 1000000
/-- Two seconds: carriage timeout (R59), run-up timer (R87), spin-up (R97), tape-end watch (R110), Err timer (R173). -/
def twoSeconds : Nat := 2000000
/-- The fan gap timer (R97). -/
def fanGapUs : Nat := 250000
/-- The decode pass (R114). -/
def passPeriodUs : Nat := 4000
/-- One cell of the writer (R131). -/
def cellUs : Nat := 2000
/-- The discharge time of OFF (R146). -/
def dischargeUs : Nat := 200000
/-- The detect period (R146). -/
def detectPeriodUs : Nat := 10000
/-- The settling timer (R147). -/
def settleUs : Nat := 50000
/-- The quiet timer (R148) and the no-answer timer (R150). -/
def tenSeconds : Nat := 10000000
/-- The poll period (R158). -/
def pollPeriodUs : Nat := 50000
/-- The follower's sync timer (R165). -/
def syncWatchUs : Nat := 3000000
/-- The entry timer (R174). -/
def entryTimerUs : Nat := 5000000
/-- The run allowance of a focus hold (R55). -/
def focusAllowanceUs : Nat := 4000000

/-! ### The settings block (Table 11-3) -/

/-- A one-byte field of the settings. -/
def set8 (s : Bytes) (o : Nat) : Nat := (byteAt s o).toNat
/-- A two-byte little-endian field of the settings. -/
def set16 (s : Bytes) (o : Nat) : Nat := (wordOf (byteAt s o) (byteAt s (o + 1))).toNat

/-- Tray size S in force: the nearest of 80, 100 and 140, the lower of two as near (R29). -/
def traySize (s : Bytes) : Nat :=
  if set8 s 0 ≤ 90 then 80 else if set8 s 0 ≤ 120 then 100 else 140
/-- Lookahead W (R11). -/
def lookahead (s : Bytes) : Nat := clamp 1 16 (set8 s 1)
/-- Rstart, steps per second (R32). -/
def rStart (s : Bytes) : Nat := clamp 100 2000 (set16 s 2)
/-- Racc (R32). -/
def rAcc (s : Bytes) : Nat := clamp 1 500 (set16 s 4)
/-- Rmax, not below Rstart (R32). -/
def rMax (s : Bytes) : Nat := max (rStart s) (clamp 400 4000 (set16 s 6))
/-- Stall pause in µs (R34). -/
def stallPause (s : Bytes) : Nat := set8 s 8 * tenMs
/-- Park angle, in 1..179 (R37). -/
def parkAngle (s : Bytes) : Nat := clamp 1 179 (set8 s 9)
/-- Seat timeout in µs (R43). -/
def seatTimeout (s : Bytes) : Nat := clamp 5 100 (set8 s 10) * tenMs
/-- Cam timeout in µs (R36). -/
def camTimeout (s : Bytes) : Nat := clamp 10 255 (set8 s 11) * tenMs

/-- A cam window's function from its code; a code above 5 is DISABLED (R37, Table 2-5). -/
def camFunctionOf : Nat → CamFunction
  | 1 => .shutter
  | 2 => .trayFree
  | 3 => .liftCheck
  | 4 => .focusHold
  | 5 => .aux
  | _ => .disabled

/-- Window `w` of the settings' cam table; an angle above 179 is taken as 179 (R37, Table 11-4). -/
def camWindow (s : Bytes) (w : Nat) : CamWindow :=
  { fn := camFunctionOf (set8 s (12 + 4 * w)), on := min 179 (set8 s (13 + 4 * w)), off := min 179 (set8 s (14 + 4 * w)) }
/-- The settings' cam table with its park angle. -/
def camTableOf (s : Bytes) : CamTable :=
  { windows := (List.range 8).map (camWindow s), park := parkAngle s }

/-- The built-in cam table with its park angle of 60 (R37, Table 2-6). -/
def builtInTable : CamTable :=
  { windows := [{ fn := .shutter, on := 10, off := 170 }, { fn := .trayFree, on := 40, off := 120 },
      { fn := .liftCheck, on := 35, off := 36 }, { fn := .disabled, on := 0, off := 0 }, { fn := .disabled, on := 0, off := 0 },
      { fn := .disabled, on := 0, off := 0 }, { fn := .disabled, on := 0, off := 0 }, { fn := .disabled, on := 0, off := 0 }],
    park := 60 }

/-- Entry `i` of the stored curve; a value above 4095 is taken as 4095 (R68). -/
def curveEntry (s : Bytes) (i : Nat) : Nat := min 4095 (set16 s (44 + 2 * i))
/-- Entry `i` of the monotone curve C': the largest stored entry up to `i` (R68). -/
def curveAt (s : Bytes) : Nat → Nat
  | 0 => curveEntry s 0
  | i + 1 => max (curveEntry s (i + 1)) (curveAt s i)

/-- Keep-alive K (R70). -/
def keepAlive (s : Bytes) : Nat := clamp 0 800 (set16 s 78)
/-- Derate cap D, not below K (R70). -/
def derateCap (s : Bytes) : Nat := clamp (keepAlive s) 4095 (set16 s 80)
/-- Nominal supply Vn (R71). -/
def nominalSupply (s : Bytes) : Nat := clamp 400 1000 (set16 s 82)
/-- Slew Sup (R72). -/
def slewStep (s : Bytes) : Nat := clamp 1 4095 (set16 s 84)
/-- Economy factor Q (R69). -/
def economyFactor (s : Bytes) : Nat := clamp 8 16 (set8 s 86)

/-- Bit `n` of the options byte. -/
def optionBit (s : Bytes) (n : Nat) : Bool := (byteAt s 87).getLsbD n
/-- Blank empty gate (R70). -/
def optBlank (s : Bytes) : Bool := optionBit s 0
/-- Auto-spare (R75). -/
def optAutoSpare (s : Bytes) : Bool := optionBit s 1
/-- Auto-rewind at END (R21). -/
def optAutoRewind (s : Bytes) : Bool := optionBit s 2
/-- The line role: FOLLOWER when option bit 3 is set (R144). -/
def lineRole (s : Bytes) : Role := if optionBit s 3 then .follower else .lead

/-- Stop fade, 10 ms units. -/
def stopFade (s : Bytes) : Nat := set16 s 88
/-- Manual fade-out, 10 ms units (R12). -/
def manualFadeOut (s : Bytes) : Nat := set16 s 90
/-- Manual fade-in, 10 ms units (R12). -/
def manualFadeIn (s : Bytes) : Nat := set16 s 92
/-- Power fade, 10 ms units (R89). -/
def powerFade (s : Bytes) : Nat := min 6000 (set16 s 94)
/-- Imin (R73). -/
def currentMin (s : Bytes) : Nat := clamp 0 1023 (set16 s 96)
/-- Iocp (R74). -/
def currentMax (s : Bytes) : Nat := clamp 100 1023 (set16 s 98)
/-- Gate warm, °C (R92). -/
def gateWarm (s : Bytes) : Nat := clamp 20 240 (set8 s 100)
/-- Gate hot, above gate warm (R92). -/
def gateHot (s : Bytes) : Nat := clamp (gateWarm s + 1) 250 (set8 s 101)
/-- Lamp-house hot (R92). -/
def houseHot (s : Bytes) : Nat := clamp 40 250 (set8 s 102)
/-- Lamp-house cool, not above lamp-house hot (R92). -/
def houseCool (s : Bytes) : Nat := clamp 20 (houseHot s) (set8 s 103)
/-- Cooldown minimum in seconds (R100). -/
def cooldownMin (s : Bytes) : Nat := set8 s 104
/-- Fmin (R96). -/
def fanMin (s : Bytes) : Nat := set8 s 105
/-- Fmax, not below Fmin (R96). -/
def fanMax (s : Bytes) : Nat := max (fanMin s) (clamp 64 255 (set8 s 106))
/-- Brake time in µs (R104). -/
def brakeTime (s : Bytes) : Nat := clamp 5 255 (set8 s 107) * tenMs
/-- Audio default (R113). -/
def audioDefault (s : Bytes) : Nat := min 63 (set8 s 108)
/-- Bit time b in µs: 250, 500 or 1,000 (R152). -/
def bitTime (s : Bytes) : Nat :=
  if set8 s 109 = 0 then 250 else if set8 s 109 = 1 then 500 else 1000
/-- Follower count (R161). -/
def followerCount (s : Bytes) : Nat := min 3 (set8 s 110)
/-- Own line address (R162). -/
def ownAddress (s : Bytes) : Nat := clamp 1 3 (set8 s 111)
/-- Link margin in ms (R16). -/
def linkMargin (s : Bytes) : Nat := clamp 20 500 (set16 s 112)
/-- Drift tolerance in seconds (R15). -/
def driftTolerance (s : Bytes) : Nat := set16 s 114
/-- Fault mask (R209). -/
def faultMask (s : Bytes) : Word := wordOf (byteAt s 116) (byteAt s 117)

/-! ### Program entries (Table 11-2) -/

/-- An entry as it lies in the mirror, before R2 clamps it. -/
structure RawEntry where
  cueNo : Word
  action : Nat
  slot : Nat
  fadeOut : Nat
  fadeIn : Nat
  level : Nat
  audio : Nat
  flags : Byte
  expected : Word
  deriving DecidableEq, Repr

/-- Entry `i` of the program mirror. -/
def rawEntry (p : Bytes) (i : Nat) : RawEntry :=
  { cueNo := wordOf (byteAt p (16 * i)) (byteAt p (16 * i + 1)), action := set8 p (16 * i + 2), slot := set8 p (16 * i + 3),
    fadeOut := set16 p (16 * i + 4), fadeIn := set16 p (16 * i + 6), level := set16 p (16 * i + 8),
    audio := set8 p (16 * i + 10), flags := byteAt p (16 * i + 11),
    expected := wordOf (byteAt p (16 * i + 12)) (byteAt p (16 * i + 13)) }

/-- An action from its value; none above 7 (Table 1-2, R2). -/
def actionOf : Nat → Option Action
  | 0 => some .nop
  | 1 => some .changeFwd
  | 2 => some .changeRev
  | 3 => some .goto
  | 4 => some .fade
  | 5 => some .audio
  | 6 => some .hold
  | 7 => some .endShow
  | _ => none

/-- The clamped values of entry `i`, or none when the entry is invalid with tray size `size` (R2). -/
def planOf (r : RawEntry) (i size : Nat) : Option Plan :=
  match actionOf r.action with
  | none => none
  | some a =>
    if a = .goto ∧ size < r.slot then none
    else some
      { cueNo := r.cueNo, entry := some i, action := a, slot := r.slot, fadeOut := min 6000 r.fadeOut,
        fadeIn := min 6000 r.fadeIn, level := min 1024 r.level,
        audio := if r.audio = 255 then none else some (min 63 r.audio),
        broadcast := r.flags.getLsbD 0, early := r.flags.getLsbD 1,
        expected := if r.expected = 0xFFFF then none else some r.expected.toNat }

/-! ### Code numbers (the tables each definition names) -/

/-- Table 1-3. -/
def RunState.code : RunState → Nat
  | .stopped => 0 | .running => 1 | .held => 2 | .learning => 3
/-- Table 1-5. -/
def CueKind.code : CueKind → Nat
  | .numbered _ => 0 | .advance => 1 | .reverse => 2 | .goto _ => 3 | .hold => 4 | .endShow => 5
/-- The cue number a log entry carries for a cue: its own for NUMBERED, 0xFFFF otherwise (R8). -/
def CueKind.number : CueKind → Word
  | .numbered n => n
  | _ => 0xFFFF
/-- The phase codes of R6. -/
def CuePhase.code : CuePhase → Nat
  | .waiting => 0 | .fadingOut => 1 | .changing => 2 | .fadingIn => 3
/-- Table 10-1, codes 1 to 4. -/
def CueSource.code : CueSource → Nat
  | .tape => 1 | .handset => 2 | .link => 3 | .control => 4
/-- Table 2-1. -/
def TransportState.code : TransportState → Nat
  | .unhomed => 0 | .ready => 1 | .cycling => 2 | .jammed => 3 | .noTray => 4
/-- Table 2-2. -/
def Phase.code : Phase → Nat
  | .none => 0 | .camHome => 1 | .lift => 2 | .park => 3 | .drop => 4 | .seat => 5 | .retry => 6
/-- Table 2-7. -/
def JamCause.code : JamCause → Nat
  | .noIndex => 1 | .cam => 2 | .lift => 3 | .seat => 4 | .tray => 5
/-- R46. -/
def gateCode : GateReading → Nat
  | .empty => 0 | .seated => 1 | .partialSeat => 2
/-- Table 3-1. -/
def LampState.code : LampState → Nat
  | .off => 0 | .lit => 1 | .swapping => 2 | .fault => 3
/-- R58. -/
def Socket.code : Socket → Nat
  | .primary => 0 | .spare => 1
/-- R93. -/
def Band.code : Band → Nat
  | .normal => 0 | .warm => 1 | .hot => 2
/-- Table 4-1. -/
def PowerState.code : PowerState → Nat
  | .standby => 0 | .runup => 1 | .on => 2 | .shutdown => 3
/-- Table 5-1. -/
def DeckMode.code : DeckMode → Nat
  | .stop => 0 | .play => 1 | .record => 2 | .fastFwd => 3 | .rewind => 4 | .braking => 5
/-- Table 5-2. -/
def DecoderState.code : DecoderState → Nat
  | .off => 0 | .hunt => 1 | .preamble => 2 | .sync => 3 | .data => 4 | .trailer => 5
/-- Table 7-1. -/
def LineState.code : LineState → Nat
  | .off => 0 | .detect => 1 | .powering => 2 | .idle => 3 | .sending => 4 | .awaiting => 5 | .receiving => 6
  | .retryWait => 7 | .lineFault => 8 | .listening => 9
/-- R186. -/
def MapState.code : MapState → Nat
  | .unmapped => 0 | .mapped _ => 1 | .mapFault => 2
/-- Table 10-2. -/
def LogKind.code : LogKind → Nat
  | .cueRun => 1 | .cueSkipped => 2 | .cueUnexpected => 3 | .cueRefused => 4 | .cueDropped => 5 | .cueLate => 6
  | .entryInvalid => 7 | .drift => 8 | .emptySlot => 9 | .jam => 10 | .traySlip => 11 | .trayPulled => 12
  | .lampFailed => 13 | .lampSwapped => 14 | .noLamp => 15 | .thermal => 16 | .fanFailed => 17 | .supply => 18
  | .tapeEnd => 19 | .recordMissed => 20 | .frameWritten => 21 | .lineFault => 22 | .stationLost => 23 | .syncStep => 24
  | .syncLost => 25 | .power => 26 | .map => 27 | .cueFadeCut => 28 | .linkDropped => 29
/-- Table 10-1. -/
def LogSource.code : LogSource → Nat
  | .cue c => c.code
  | .transport => 9 | .lamp => 10 | .cooling => 11 | .deck => 12 | .cueTrack => 13 | .line => 14 | .path => 15
/-- Table 10-4. -/
def FaultFlag.bit : FaultFlag → Nat
  | .mapFault => 0 | .camDefault => 1 | .jam => 2 | .traySlip => 3 | .trayPulled => 4 | .primaryFailed => 5
  | .spareFailed => 6 | .noLamp => 7 | .carriage => 8 | .fanFailed => 9 | .thermalHot => 10 | .supply => 11
  | .tapeEnd => 12 | .lineFault => 13 | .stationLost => 14 | .logOverflow => 15

/-! ### Line frames (R152, R153, Tables 7-2 and 11-11) -/

/-- The kind code of a frame a lead sends (Table 7-2). -/
def LineMsg.code : LineMsg → Nat
  | .poll _ => 1 | .cue _ _ => 2 | .advance _ => 3 | .reverse _ => 4 | .hold _ => 5 | .stop => 6 | .resume => 7
  | .endShow _ => 8 | .sync _ => 9
/-- The cue number a LINK_DROPPED entry carries for the frame (R151). -/
def LineMsg.number : LineMsg → Word
  | .cue n _ => n
  | _ => 0xFFFF
/-- The data bytes of a frame (Table 11-11). -/
def LineMsg.data : LineMsg → List Byte
  | .poll _ | .stop | .resume => []
  | .cue n t => wordBytes n ++ wordBytes t
  | .advance t | .reverse t | .hold t | .endShow t => wordBytes t
  | .sync c => clockBytes c
/-- The address of a frame: the station for a POLL, 7 otherwise (R153). -/
def LineMsg.address : LineMsg → Nat
  | .poll n => n
  | _ => 7
/-- The sum of a frame's bytes modulo 256. -/
def byteSum (bs : List Byte) : Byte := bs.foldl (· + ·) 0
/-- Header, data and the check byte that makes the bytes sum to 0 modulo 256 (R152). -/
def withCheck (bs : List Byte) : List Byte := bs ++ [0 - byteSum bs]
/-- The bytes of a lead frame on the line. -/
def lineBytes (m : LineMsg) : List Byte := withCheck (toByte (32 * m.address + m.code) :: m.data)
/-- The bit times of a frame with its guard and break: 26, 46 or 66 (R153). -/
def frameBits (m : LineMsg) : Nat := 26 + 10 * m.data.length

/-- How many data bytes a frame of this header has, none when the header names an unknown kind or an address that does not fit
the kind: both are framing errors (R152, R153). -/
def dataLength (address kind : Nat) : Option Nat :=
  match kind with
  | 1 => if address ≤ 3 then some 0 else none
  | 2 => if address = 7 then some 4 else none
  | 3 => if address = 7 then some 2 else none
  | 4 => if address = 7 then some 2 else none
  | 5 => if address = 7 then some 2 else none
  | 6 => if address = 7 then some 0 else none
  | 7 => if address = 7 then some 0 else none
  | 8 => if address = 7 then some 2 else none
  | 9 => if address = 7 then some 4 else none
  | 16 => if address = 0 then some 2 else if address ≤ 3 then some 3 else none
  | _ => none

/-- A receiver's judgement of a frame (R152, R154). -/
inductive Judgement where
  | framing
  | check
  | good (address kind : Nat) (data : List Byte)
  deriving DecidableEq, Repr

/-- Judges the bytes of a frame: header, data, check byte. -/
def judge : LineRx → Judgement
  | .framing => .framing
  | .bytes [] => .framing
  | .bytes (h :: rest) =>
    match dataLength (h.toNat / 32) (h.toNat % 32) with
    | none => .framing
    | some n =>
      if rest.length ≠ n + 1 then .framing
      else if byteSum (h :: rest) ≠ 0 then .check
      else .good (h.toNat / 32) (h.toNat % 32) (rest.take n)

/-! ### Cue frames (R133, R134, Tables 5-4 and 11-10) -/

/-- The data count a kind requires, none for a kind of 0 or 7..15 (Table 5-4). -/
def dataCount : Nat → Option Nat
  | 1 => some 0 | 2 => some 0 | 3 => some 2 | 4 => some 2 | 5 => some 0 | 6 => some 0
  | _ => none

/-- The header character: kind in bits 7–4, data count in bits 3–2, sequence in bits 1–0 (R134). -/
def headerChar (kind sequence : Nat) : Byte := toByte (16 * kind + 4 * (dataCount kind).getD 0 + sequence)

/-- The characters of a frame: the header, then the data low byte first. -/
def frameChars (kind sequence : Nat) (data : Word) : List Byte :=
  headerChar kind sequence :: (if dataCount kind = some 2 then wordBytes data else [])

/-- The eight data bits of a character, least significant first. -/
def charBits (c : Byte) : List Bool := (List.range 8).map c.getLsbD

/-- How many bits of a list are set. -/
def countOnes : List Bool → Nat
  | [] => 0
  | b :: t => (if b then 1 else 0) + countOnes t

/-- ONE for a 1 and ZERO for a 0. -/
def bitSymbol (b : Bool) : Symbol := if b then .one else .zero

/-- The ten cells of a character: start ZERO, eight data cells, and the parity cell that makes the ONEs odd (R134). -/
def charCells (c : Byte) : List Symbol :=
  .zero :: (charBits c).map bitSymbol ++ [bitSymbol (countOnes (charBits c) % 2 == 0)]

/-- One copy of a frame: preamble, sync, characters, trailer (R133). -/
def copyCells (kind sequence : Nat) (data : Word) : List Symbol :=
  List.replicate 16 .one ++ List.replicate 3 .sync ++ (frameChars kind sequence data).flatMap charCells
    ++ List.replicate 2 .zero

/-- A frame as it is placed: two copies back to back (R133). -/
def frameCells (kind sequence : Nat) (data : Word) : List Symbol :=
  copyCells kind sequence data ++ copyCells kind sequence data

/-- L, the slots a frame occupies (Table 6-2). -/
def frameLength (kind : Nat) : Nat := if dataCount kind = some 2 then 102 else 62

/-! ### Log entries (Table 11-8) -/

/-- The sixteen bytes of a log entry. -/
def entryBytes (e : LogEntry) : List Byte :=
  wordBytes e.sequence ++ [toByte e.kind.code, toByte e.source.code] ++ clockBytes e.time ++ wordBytes e.cueNo ++ [e.slot]
    ++ wordBytes e.detail1 ++ wordBytes e.detail2 ++ [0]

end Sys2Proof.Machine
end

