-- ==== Sys2Proof/Machine/Flags.lean ====
section
/-! DEFINITION. The fault flags with their persisting conditions (Table 10-4), and the outputs that are computed from the state:
the attention output, the display, mains enable, the line's switch and detect current. -/

namespace Sys2Proof.Machine

/-- The word in which flag `f`'s bit alone is set. -/
def FaultFlag.mask (f : FaultFlag) : Word := 1#16 <<< f.bit

/-- The sixteen flags, bit 0 first. -/
def allFlags : List FaultFlag :=
  [.mapFault, .camDefault, .jam, .traySlip, .trayPulled, .primaryFailed, .spareFailed, .noLamp, .carriage, .fanFailed,
   .thermalHot, .supply, .tapeEnd, .lineFault, .stationLost, .logOverflow]

/-- Whether flag `f` is set. -/
def flagOn (s : State) (f : FaultFlag) : Bool := s.log.flags.getLsbD f.bit

/-- A setting event of flag `f`: a flag already set stays set (R207). -/
def setFlag (f : FaultFlag) (s : State) : State :=
  { s with log := { s.log with flags := s.log.flags ||| f.mask } }

/-- The station record of follower `n` of 1..3. -/
def followerOf (l : Line) : Nat → Station
  | 1 => l.follower1
  | 2 => l.follower2
  | _ => l.follower3

/-- A follower within the follower count in force is ABSENT: the persisting condition of STATION_LOST (R160). -/
def followerAbsent (s : State) : Bool :=
  (decide (1 ≤ followerCount s.path.settings) && !s.line.follower1.present)
    || (decide (2 ≤ followerCount s.path.settings) && !s.line.follower2.present)
    || (decide (3 ≤ followerCount s.path.settings) && !s.line.follower3.present)

/-- The persisting condition of each flag (Table 10-4). -/
def persists (s : State) : FaultFlag → Bool
  | .mapFault => decide (s.path.map = .mapFault)
  | .camDefault => s.transport.substituted
  | .jam => decide (s.transport.state = .jammed)
  | .primaryFailed => decide (s.lamp.primary = .failed)
  | .spareFailed => decide (s.lamp.spare = .failed)
  | .noLamp => decide (s.lamp.state = .fault)
  | .carriage => decide (s.lamp.state = .fault)
  | .fanFailed => decide (s.power.fanWatch = .failed)
  | .thermalHot => decide (s.power.band = .hot)
  | .lineFault => decide (s.line.state = .lineFault)
  | .stationLost => followerAbsent s
  | .traySlip | .trayPulled | .supply | .tapeEnd | .logOverflow => false

/-- The word of the flags of `fs` whose persisting condition holds. -/
def persistWord (s : State) : List FaultFlag → Word
  | [] => 0
  | f :: fs => if persists s f then f.mask ||| persistWord s fs else persistWord s fs

/-- An acknowledgement of the value `v`: each flag whose bit is 1 is cleared and, if its condition holds, set again at once; bit
15 also clears the lost count (R208). -/
def acknowledge (v : Word) (s : State) : State :=
  { s with log :=
      { s.log with
        flags := (s.log.flags &&& ~~~v) ||| (v &&& persistWord s allFlags)
        lost := if v.getLsbD 15 then 0 else s.log.lost } }

/-- The attention output: some flag is set whose bit the fault mask leaves clear (R209). -/
def attention (s : State) : Bool := decide (s.log.flags &&& ~~~(faultMask s.path.settings) ≠ 0)

/-- Mains enable is asserted in RUNUP, ON and SHUTDOWN (R85). -/
def mainsOn (s : State) : Bool := decide (s.power.state ≠ .standby)

/-- The powered states of the line (R145). -/
def LineState.powered : LineState → Bool
  | .powering | .idle | .sending | .awaiting | .receiving => true
  | _ => false

/-- The line supply switch (R145). -/
def lineSwitch (s : State) : Bool := decide (s.line.role = .lead) && s.line.state.powered

/-- The detect current, injected in DETECT (R145). -/
def detectCurrent (s : State) : Bool := decide (s.line.state = .detect)

/-- What the deck's transport lines drive: the lines of a moving mode, or the brake line (R103). -/
inductive TransportLine where
  | play
  | record
  | fastFwd
  | rewind
  | brake
  deriving DecidableEq, Repr

/-- The transport lines that the deck drives in a mode, from its entry to its leaving: in BRAKING the brake line alone; in STOP every
line is released (R103, R129). -/
def DeckMode.line : DeckMode → Option TransportLine
  | .stop => none
  | .play => some .play
  | .record => some .record
  | .fastFwd => some .fastFwd
  | .rewind => some .rewind
  | .braking => some .brake

/-- The transport lines driven now (R103). -/
def transportLine (s : State) : Option TransportLine := s.deck.mode.line

/-- The record-enable line (R131). -/
def recordEnable (s : State) : Bool := decide (s.deck.mode = .record)

/-- Whether the program-audio output sounds: in PLAY and RECORD, at a level above 0 (R113). -/
def audioSounds (s : State) : Bool :=
  (decide (s.deck.mode = .play) || decide (s.deck.mode = .record)) && decide (0 < s.deck.audio)

/-- The fader's gain in dB while the output sounds: (level − 63) (R113). -/
def audioGain (s : State) : Int := (s.deck.audio : Int) - 63

/-! ### The slot display (R177, R178) -/

/-- The glyphs of one character position. -/
inductive Glyph where
  | digit (d : Nat)
  | letterE
  | letterR
  | dash
  | blank
  deriving DecidableEq, Repr

/-- The lowest-numbered flag set among `fs`. -/
def lowestFlag (s : State) : List FaultFlag → Option FaultFlag
  | [] => none
  | f :: fs => if flagOn s f then some f else lowestFlag s fs

/-- The three glyphs of an entry, right-aligned (R177). -/
def entryGlyphs : List Nat → Glyph × Glyph × Glyph
  | [a, b, c] => (.digit a, .digit b, .digit c)
  | [a, b] => (.blank, .digit a, .digit b)
  | [a] => (.blank, .blank, .digit a)
  | _ => (.blank, .blank, .blank)

/-- The three glyphs of a number as decimal digits with leading zeros. -/
def numberGlyphs (p : Nat) : Glyph × Glyph × Glyph := (.digit (p / 100), .digit (p / 10 % 10), .digit (p % 10))

/-- What the display shows: a fault, Err, the entry, or the slot in gate, the first that applies (R177). -/
def display (s : State) : Glyph × Glyph × Glyph :=
  match lowestFlag s allFlags with
  | some f => (.letterE, .digit (f.bit / 10), .digit (f.bit % 10))
  | none =>
    if s.handset.errTimer.isSome then (.letterE, .letterR, .letterR)
    else if s.handset.entry ≠ [] then entryGlyphs s.handset.entry
    else match s.transport.slotInGate with
      | some p => numberGlyphs p
      | none => (.dash, .dash, .dash)

end Sys2Proof.Machine
end

