-- ==== Sys2Proof/Machine/Ops.lean ====
section
/-! DEFINITION. Operations that several blocks share: posting a log entry, timers, the deck's modes, the audio fader, the writer's
cells and placements, and the lamp's ramp record. -/

namespace Sys2Proof.Machine

/-! ### The show log -/

/-- Posts a completed entry: the next sequence number, the show clock, and the fields given. With 64 entries held the oldest is
lost, the lost count rises and LOG_OVERFLOW is set (R202, R204). -/
def post (k : LogKind) (src : LogSource) (cueNo : Word) (slot : Byte) (d1 d2 : Nat) (s : State) : State :=
  let e : LogEntry :=
    { sequence := s.log.next, kind := k, source := src, time := s.clock.showClock, cueNo := cueNo, slot := slot,
      detail1 := toWord d1, detail2 := toWord d2 }
  if s.log.ring.length < 64 then
    { s with log := { s.log with ring := s.log.ring ++ [e], next := s.log.next + 1 } }
  else
    { s with log :=
        { ring := s.log.ring.drop (s.log.ring.length - 63) ++ [e], next := s.log.next + 1,
          lost := satInc 255 s.log.lost, flags := s.log.flags ||| FaultFlag.logOverflow.mask } }

/-- Posts an entry whose rule names no slot: the slot in gate at that moment (R202). -/
def postGate (k : LogKind) (src : LogSource) (cueNo : Word) (d1 d2 : Nat) (s : State) : State :=
  post k src cueNo (slotByte s.transport.slotInGate) d1 d2 s

/-- No cue number (R202). -/
def noCue : Word := 0xFFFF

/-! ### Timers -/

/-- A timer of `us` microseconds started now. -/
def startTimer (us : Nat) (s : State) : Timer := some (s.clock.now + us)

/-- Stops the count of a pausable timer, keeping what remains. -/
def pauseTimer (now : Nat) (t : PauseTimer) : PauseTimer :=
  match t.due with
  | some d => { left := d - now, due := none }
  | none => t

/-- Goes on with the count of a pausable timer. -/
def resumeTimer (now : Nat) (t : PauseTimer) : PauseTimer :=
  match t.due with
  | some _ => t
  | none => { t with due := some (now + t.left) }

/-! ### The writer's cells (R130 to R132) -/

/-- The symbol output for the slot at the pointer; a free slot is output as ZERO (R132). -/
def currentSymbol (w : Writer) : Symbol := (assocGet w.slots w.pointer).getD .zero

/-- Whether a cell makes a transition at its start (Table 6-1). -/
def startTransition (sym : Symbol) (syncRun : Nat) : Bool :=
  match sym with
  | .sync => decide (syncRun = 0)
  | _ => true

/-- Whether a cell makes a transition at its middle (Table 6-1). -/
def midTransition (sym : Symbol) (syncRun : Nat) : Bool :=
  match sym with
  | .one => true
  | .zero => false
  | .sync => decide (syncRun = 1)

/-- The cell at offset 0 begins: the line makes its start transition (R131, R132). -/
def beginCell (now : Nat) (w : Writer) : Writer :=
  { w with level := w.level ^^ startTransition (currentSymbol w) w.syncRun, cellStart := now, midDone := false,
           cellTimer := some (now + cellUs) }

/-- The middle of the cell in progress passes: the line makes its middle transition, once (R132). -/
def passMiddle (w : Writer) : Writer :=
  if w.midDone then w
  else { w with level := w.level ^^ midTransition (currentSymbol w) w.syncRun, midDone := true }

/-- The cell in progress is complete: its slot is freed, the sync run count updated, the pointer advanced (R131, R132; the count
stays within 0..2, assumption 12). -/
def completeCell (w : Writer) : Writer :=
  { w with slots := assocErase w.slots w.pointer,
           syncRun := if currentSymbol w = .sync then min 2 (w.syncRun + 1) else 0,
           pointer := (w.pointer + 1) % 256 }

/-- Leaving RECORD: the cell clock stops and the line holds its level; the cell in progress is cut short, with its middle
transition made if its middle has passed (R131). -/
def pauseWriter (now : Nat) (w : Writer) : Writer :=
  { (if w.cellStart + 1000 ≤ now then passMiddle w else w) with cellTimer := none }

/-! ### Deck modes (R103 to R106) -/

/-- PLAY, RECORD, FAST_FWD and REWIND are the moving modes (R103). -/
def DeckMode.moving : DeckMode → Bool
  | .play | .record | .fastFwd | .rewind => true
  | _ => false

/-- The decoder in HUNT with an empty run and, for `ref = none`, no reference edge (R116, R118). -/
def enterHunt (ref : Option Clock32) (d : Decoder) : Decoder :=
  { d with state := .hunt, reference := ref, runCount := 0, runSum := 0, runHalf := none, half := none, bits := [],
           chars := [] }

/-- Leaving PLAY: capture stops, the ring is emptied, the decoder is OFF and a frame in assembly abandoned (R106). -/
def decoderOff (d : Decoder) : Decoder :=
  { d with state := .off, ring := [], runCount := 0, runSum := 0, runHalf := none, half := none, bits := [], chars := [],
           passTimer := none }

/-- Entering PLAY: the decoder hunts, the last-accepted-frame memory is empty (R106). -/
def decoderPlay (now : Nat) (d : Decoder) : Decoder :=
  { enterHunt none d with accepted := none, passTimer := some (now + passPeriodUs) }

/-- What the decoder does when the deck's mode becomes `m` from `old`. -/
def decoderFor (now : Nat) (old m : DeckMode) (d : Decoder) : Decoder :=
  if m = .play then decoderPlay now d else if old = .play then decoderOff d else d

/-- What the writer does when the deck's mode becomes `m` from `old`. -/
def writerFor (now : Nat) (old m : DeckMode) (w : Writer) : Writer :=
  if m = .record then beginCell now w else if old = .record then pauseWriter now w else w

/-- What the tape-second timer does in mode `m`: it runs in PLAY and RECORD, is zero from FAST_FWD and REWIND on, and is
paused elsewhere (R111). -/
def secondFor (now : Nat) (m : DeckMode) (t : PauseTimer) : PauseTimer :=
  match m with
  | .play | .record => resumeTimer now t
  | .fastFwd | .rewind => { left := oneSecond, due := none }
  | .stop | .braking => pauseTimer now t

/-- The deck enters mode `m`, with what that does to its neighbours (R106); a deck already in `m` is left as it is. -/
def setDeckMode (m : DeckMode) (s : State) : State :=
  if s.deck.mode = m then s
  else
    { s with
      deck := { s.deck with
        mode := m
        endWatch := if m.moving then startTimer twoSeconds s else none
        tapeTime := if m = .fastFwd ∨ m = .rewind then none else s.deck.tapeTime
        second := secondFor s.clock.now m s.deck.second }
      decoder := decoderFor s.clock.now s.deck.mode m s.decoder
      writer := writerFor s.clock.now s.deck.mode m s.writer }

/-- The deck begins to brake from the mode it is in, with `p` pending (R104). -/
def startBraking (p : PendingMode) (s : State) : State :=
  setDeckMode .braking
    { s with deck := { s.deck with
        brakeForward := decide (s.deck.mode ≠ .rewind)
        brakeTimer := startTimer (brakeTime s.path.settings) s
        pending := some p } }

/-- A mode request is taken (R104); it empties a locate record (R109). -/
def deckRequest (m : DeckMode) (s : State) : State :=
  let s := { s with deck := { s.deck with locate := none } }
  match s.deck.mode with
  | .stop => if m.moving then setDeckMode m s else s
  | .braking => { s with deck := { s.deck with pending := some (.mode m) } }
  | _ => if s.deck.mode = m then s else startBraking (.mode m) s

/-- A locate is resolved against the counter (R108). -/
def resolveLocate (s : State) : State :=
  match s.deck.locate with
  | none => setDeckMode .stop s
  | some c =>
    if s.deck.counter < c then setDeckMode .fastFwd s
    else if c < s.deck.counter then setDeckMode .rewind s
    else setDeckMode .stop { s with deck := { s.deck with locate := none } }

/-- A LOCATE request with target `c` is taken (R108). -/
def deckLocate (c : Int) (s : State) : State :=
  let s := { s with deck := { s.deck with locate := some c } }
  match s.deck.mode with
  | .stop => resolveLocate s
  | .braking => { s with deck := { s.deck with pending := some .locate } }
  | _ => startBraking .locate s

/-- Whether the counter has reached or passed the locate target in the winding mode (R109). -/
def locateReached (d : Deck) : Bool :=
  match d.locate with
  | none => false
  | some c =>
    match d.mode with
    | .fastFwd => decide (c ≤ d.counter)
    | .rewind => decide (d.counter ≤ c)
    | _ => false

/-- The counter takes the value `v`, and the locate is tested (R107, R109). -/
def setCounter (v : Int) (s : State) : State :=
  let s := { s with deck := { s.deck with counter := v } }
  if locateReached s.deck then startBraking (.mode .stop) { s with deck := { s.deck with locate := none } } else s

/-- The counter's range: signed 32 bits, saturating (R107). -/
def clampCounter (v : Int) : Int := max (-2147483648) (min 2147483647 v)

/-! ### The program-audio fader (R112, R113) -/

/-- An audio ramp request of `t` periods to `target`. -/
def audioRamp (target t : Nat) (s : State) : State :=
  { s with deck := { s.deck with
      ramp := { a0 := s.deck.audio, a1 := min 63 target, n := t, k := 0, active := true } } }

/-- START sets the level at once and ends a ramp in progress (R113). -/
def setAudio (level : Nat) (s : State) : State :=
  { s with deck := { s.deck with audio := level, ramp := { s.deck.ramp with active := false } } }

/-- The fade to 0 over the stop fade (R6, R21). -/
def fadeAudioOut (s : State) : State := audioRamp 0 (stopFade s.path.settings) s

/-! ### Placing a frame (R135 to R137) -/

/-- Whether the `n` slots from offset `d` are all free. -/
def freeRun (w : Writer) (d : Nat) : Nat → Bool
  | 0 => true
  | n + 1 => !assocHas w.slots ((w.pointer + d) % 256) && freeRun w (d + 1) n

/-- The first offset from `d`, of `fuel` to try, at which `n` slots are free (R137). -/
def firstFit (w : Writer) (n : Nat) : Nat → Nat → Option Nat
  | _, 0 => none
  | d, fuel + 1 => if freeRun w d n then some d else firstFit w n (d + 1) fuel

/-- Writes the cells at the offsets from `d`. -/
def layCells (w : Writer) (d : Nat) : List Symbol → Writer
  | [] => w
  | c :: cs => layCells { w with slots := assocSet w.slots ((w.pointer + d) % 256) c } (d + 1) cs

/-- The writer's refusals (Table 6-3). -/
inductive Refuse where
  | overlap
  | range
  | noRoom
  | notRecording
  deriving DecidableEq, Repr

/-- Table 6-3. -/
def Refuse.code : Refuse → Nat
  | .overlap => 1 | .range => 2 | .noRoom => 3 | .notRecording => 4

/-- Where a frame of `n` cells goes: by offset (R136), or as soon as possible (R137), or its refusal. -/
def findPlace (w : Writer) (n : Nat) : Option Nat → Except Refuse Nat
  | some d =>
    if d < 8 ∨ 200 < d ∨ 248 < d + n then .error .range
    else if freeRun w d n then .ok d else .error .overlap
  | none =>
    match firstFit w n 8 (248 - n - 7) with
    | some d => .ok d
    | none => .error .noRoom

/-- A placement request: placed whole, with FRAME_WRITTEN posted, or refused whole (R135, R134, R141). -/
def placeFrame (src : CueSource) (kind : Nat) (data : Word) (offset : Option Nat) (s : State) : State × Option Refuse :=
  if s.deck.mode ≠ .record then (s, some .notRecording)
  else
    match findPlace s.writer (frameLength kind) offset with
    | .error r => (s, some r)
    | .ok d =>
      (postGate .frameWritten (.cue src) (if kind = 3 then data else noCue) d
          (headerChar kind s.writer.sequence).toNat
          { s with writer :=
              { layCells s.writer d (frameCells kind s.writer.sequence data) with
                sequence := (s.writer.sequence + 1) % 4 } },
        none)

/-! ### The lamp's ramp record (R64) -/

/-- A ramp request: from the current level to `target` over `t` periods. -/
def setRamp (target t : Nat) (req : Requester) (s : State) : State :=
  { s with lamp := { s.lamp with
      ramp := { l0 := s.lamp.level, l1 := min 1024 target, n := t, k := 0, active := true, requester := some req } } }

/-- A cue engine request that no executing cue awaits (STOP, END): not applied while the lamp is going off (R61). -/
def engineRampUnowned (target t : Nat) (s : State) : State :=
  if s.lamp.goingOff.isSome then s else setRamp target t .engine s

end Sys2Proof.Machine
end

