-- ==== Sys2Proof/Machine/LineOps.lean ====
section
/-! DEFINITION. The line unit's shared operations: the lead's choice of frame, its broadcast queue, the station table, and leaving
the powered states (R145 to R161). -/

namespace Sys2Proof.Machine

/-- The station record at address `n` (0 the handset). -/
def stationOf (l : Line) (n : Nat) : Station := if n = 0 then l.handset else followerOf l n

/-- Replaces the station record at address `n`. -/
def setStation (l : Line) (n : Nat) (st : Station) : Line :=
  match n with
  | 0 => { l with handset := st }
  | 1 => { l with follower1 := st }
  | 2 => { l with follower2 := st }
  | _ => { l with follower3 := st }

/-! ### The choice of frame (R155) -/

/-- The show clock at the moment `us` microseconds from now. -/
def showClockIn (us : Nat) (s : State) : Clock32 :=
  s.clock.showClock + BitVec.ofNat 32 ((s.clock.subMs + us) / 1000)

/-- The lead enters SENDING with frame `m` at the bit time in force (R155). The break begins 2b after the guard begins. -/
def sendFrame (m : LineMsg) (s : State) : State :=
  let b := bitTime s.path.settings
  { s with line := { s.line with
      state := .sending, current := some m, bit := b, frameEnd := startTimer (frameBits m * b) s, lineOut := lineBytes m } }

/-- Sends a SYNC: its data is the show clock at its break's start, from which the next SYNC is timed (R157). -/
def sendSync (s : State) : State :=
  let b := bitTime s.path.settings
  let s' := sendFrame (.sync (showClockIn (2 * b) s)) s
  { s' with line := { s'.line with syncTimer := startTimer (2 * b + oneSecond) s } }

/-- The lead in IDLE takes the first item waiting: broadcast, SYNC, poll; it stays in IDLE while nothing waits, or while it waits
for the line to be high (R154, R155). -/
def chooseFrame (s : State) : State :=
  if s.line.state ≠ .idle ∨ s.line.holdOff then s
  else
    match s.line.queue with
    | m :: _ => sendFrame m s
    | [] =>
      if s.line.syncDue then sendSync s
      else match s.line.pollList with
        | n :: _ => sendFrame (.poll n) s
        | [] => s

/-- The lead enters IDLE and makes its next choice (R155). -/
def enterIdle (s : State) : State :=
  chooseFrame { s with line := { s.line with
      state := .idle, current := none, frameEnd := none, window := none, badFrame := false } }

/-! ### The broadcast queue (R156) -/

/-- A LINK_DROPPED entry for frame `m` (R151, R156). -/
def postDropped (m : LineMsg) (why : Nat) (s : State) : State :=
  postGate .linkDropped .line m.number m.code why s

/-- Whether a broadcast can be queued in the line state: not in OFF, DETECT or LINE_FAULT (R156). -/
def LineState.queues : LineState → Bool
  | .powering | .idle | .sending | .awaiting | .receiving | .retryWait => true
  | _ => false

/-- The cue engine posts a broadcast (R156). The line's state is tested before the queue's length, so a posting in OFF or DETECT to a
queue that still holds four entries is logged with detail 2 = 2: R156 gives both values there, and this order is the model's choice
(assumption 41). -/
def postBroadcast (m : LineMsg) (s : State) : State :=
  if !s.line.state.queues then postDropped m 2 s
  else if s.line.queue.length < 4 then
    chooseFrame { s with line := { s.line with queue := s.line.queue ++ [m] } }
  else postDropped m 1 s

/-- Posts LINK_DROPPED for each frame of the list, oldest first. -/
def postAllDropped : List LineMsg → State → State
  | [], s => s
  | m :: ms, s => postAllDropped ms (postDropped m 2 s)

/-- Every entry of the broadcast queue is removed and logged (R151). -/
def dropBroadcasts (s : State) : State :=
  postAllDropped s.line.queue { s with line := { s.line with queue := [] } }

/-- Whether the part broadcasts: the role in force is LEAD and at least one follower is configured (R16). -/
def broadcasts (s : State) : Bool :=
  decide (s.line.role = .lead) && decide (1 ≤ followerCount s.path.settings)

/-- Posts a broadcast when the part broadcasts (R16). -/
def announce (m : LineMsg) (s : State) : State := if broadcasts s then postBroadcast m s else s

/-! ### The station table (R160) -/

/-- STATION_LOST for follower `n`, whose record was `st` (R160). -/
def stationLost (n : Nat) (st : Station) (s : State) : State :=
  let summary : Nat :=
    match st.last with
    | some (run :: _ :: faults :: _) => run.toNat + 256 * faults.toNat
    | _ => 65535
  setFlag .stationLost (postGate .stationLost .line noCue n summary s)

/-- One station becomes ABSENT with no misses, as the line goes down; a follower within the count in force that was PRESENT is
logged (R151). -/
def dropStation (n : Nat) (s : State) : State :=
  let st := stationOf s.line n
  let s' := { s with line := setStation s.line n { st with present := false, misses := 0 } }
  if 1 ≤ n ∧ n ≤ followerCount s.path.settings ∧ st.present then stationLost n st s' else s'

/-- Every station becomes ABSENT (R151). -/
def dropStations (s : State) : State := dropStation 3 (dropStation 2 (dropStation 1 (dropStation 0 s)))

/-- The line is taken to be without followers: stations ABSENT, broadcasts dropped (R151). -/
def lineWithoutFollowers (s : State) : State := dropBroadcasts (dropStations s)

/-! ### The poll list (R158) -/

/-- The follower after the round-robin index, wrapping from the count back to 1. -/
def nextFollower (robin count : Nat) : Nat := if count ≤ robin then 1 else robin + 1

/-- A poll period starts: an empty list is filled with the handset and the next follower (R158). -/
def fillPolls (s : State) : State :=
  if s.line.pollList ≠ [] then s
  else if followerCount s.path.settings = 0 then { s with line := { s.line with pollList := [0] } }
  else
    let f := nextFollower s.line.robin (followerCount s.path.settings)
    { s with line := { s.line with pollList := [0, f], robin := f } }

/-- Entry to IDLE from POWERING: the no-answer timer, the poll period with its list, a SYNC where followers are configured, and
the first choice of frame (R147). -/
def startLine (s : State) : State :=
  enterIdle (fillPolls { s with line := { s.line with
      settle := none, noAnswer := startTimer tenSeconds s, pollPeriod := startTimer pollPeriodUs s,
      syncDue := decide (1 ≤ followerCount s.path.settings), pollList := [] } })

/-- The lead enters POWERING: the supply is on and the settling timer runs (R147). -/
def enterPowering (s : State) : State :=
  { s with line := { s.line with
      state := .powering, settle := startTimer settleUs s, detectPeriod := none, retry := none, detectCount := 0 } }

/-- The lead enters DETECT with a detection count of 0 (R146). -/
def enterDetect (s : State) : State :=
  { s with line := { s.line with
      state := .detect, detectCount := 0, detectPeriod := startTimer detectPeriodUs s, discharge := none } }

end Sys2Proof.Machine
end

