-- ==== Sys2Proof/Machine/EngineOps.lean ====
section
/-! DEFINITION. The cue engine's shared operations: the pending queue, the run-state requests, STOP by phase, and the end of the
executing cue (R1 to R9, R14, R20 to R25). -/

namespace Sys2Proof.Machine

/-! ### The program (R1, R4) -/

/-- The entries in force: the adopted header's count while MAPPED, 0 otherwise (R1). -/
def entriesInForce (s : State) : Nat :=
  match s.path.map with
  | .mapped m => m.count
  | _ => 0

/-- Entry `i` is LOADED: it is in force and the mirror holds all 16 of its bytes (R1). -/
def entryLoaded (s : State) (i : Nat) : Bool :=
  decide (i < entriesInForce s) && capturedAll s.path.program (16 * i) 16

/-- The entry of the executing cue, when that cue executes a program entry. -/
def executingEntry (s : State) : Option Nat :=
  match s.engine.cue with
  | some e => e.plan.entry
  | none => none

/-- The armed set, as a test on an entry index (R4). -/
def armed (s : State) (i : Nat) : Bool :=
  decide (s.engine.runState ≠ .stopped) &&
    ((decide (i < entriesInForce s) && (decide (i = s.engine.pointer) || decide (i = s.engine.pointer + 1)))
      || decide (executingEntry s = some i))

/-- A pointer above the entries in force is set equal to them (R3). -/
def limitPointer (s : State) : State :=
  { s with engine := { s.engine with pointer := min s.engine.pointer (entriesInForce s) } }

/-! ### The pending cue queue (R8, R9) -/

/-- Logs each cue of the list CUE_DROPPED with detail 1 = 0xFFFF, oldest first (R6). -/
def postCuesDropped : List Cue → State → State
  | [], s => s
  | c :: cs, s => postCuesDropped cs (postGate .cueDropped (.cue c.source) c.kind.number 65535 c.kind.code s)

/-- Every cue in the queue is removed and logged (R6). -/
def clearQueue (s : State) : State :=
  postCuesDropped s.engine.queue { s with engine := { s.engine with queue := [] } }

/-- What became of a posting (R8, R9). -/
inductive Posting where
  | queued
  | discarded
  | refused
  deriving DecidableEq, Repr

/-- Whether a cue posted in STOPPED is discarded: any from TAPE, and NUMBERED, HOLD and END from any source (R9). -/
def discardedStopped (src : CueSource) (k : CueKind) : Bool :=
  match src, k with
  | .tape, _ => true
  | _, .numbered _ => true
  | _, .hold => true
  | _, .endShow => true
  | _, _ => false

/-- A source posts a cue (R8, R9). -/
def postCue (src : CueSource) (k : CueKind) (start : Option Clock32) (s : State) : State × Posting :=
  if s.engine.runState = .stopped ∧ discardedStopped src k then (s, .discarded)
  else if s.engine.queue.length < 4 then
    ({ s with engine := { s.engine with
        queue := s.engine.queue ++ [{ source := src, kind := k, arrival := s.clock.showClock, start := start }] } }, .queued)
  else (postGate .cueRefused (.cue src) k.number k.code 0 s, .refused)

/-! ### The end of the executing cue -/

/-- The executing cue record ceases to exist. -/
def noExecuting (s : State) : State := { s with engine := { s.engine with cue := none } }

/-- The gate latency of a cue (R24). -/
def gateLatency (e : Executing) : Nat :=
  match e.seat with
  | none => 65535
  | some t => min 65534 ((t - e.startUs).toNat / 1000)

/-- The executing cue completes: CUE_RUN is logged (R24). -/
def completeCue (e : Executing) (s : State) : State :=
  noExecuting (postGate .cueRun (.cue e.source) e.plan.cueNo (gateLatency e) e.source.code s)

/-- Logs the executing cue CUE_DROPPED in the phase with code `phase` (R6, R25). A cue that executes a program entry carries the
entry's number, whatever its kind: the model's choice (assumption 33). -/
def postExecutingDropped (e : Executing) (phase : Nat) (s : State) : State :=
  postGate .cueDropped (.cue e.source) e.plan.cueNo phase e.kind.code s

/-- A cue marked stopping ends: the lamp is asked to ramp to 0 unless its ramp record targets 0 already (R6). -/
def finishStopping (s : State) : State :=
  let s := noExecuting s
  if s.lamp.ramp.l1 = 0 then s else engineRampUnowned 0 (stopFade s.path.settings) s

/-- A further STOP finds the executing cue marked stopping: in FADING_IN the ramp is retargeted again (Table 1-6). The cue is not
logged a second time (assumption 39). -/
def stopAgain (e : Executing) (s : State) : State :=
  if e.phase = .fadingIn then engineRampUnowned 0 (stopFade s.path.settings) s else s

/-- STOP by the phase of the executing cue (Table 1-6). -/
def stopExecuting (s : State) : State :=
  match s.engine.cue with
  | none => s
  | some e =>
    if e.stopping then stopAgain e s
    else
      let logged := postExecutingDropped e e.phase.code s
      match e.phase with
      | .waiting => noExecuting logged
      | .fadingOut => noExecuting (engineRampUnowned 0 (stopFade s.path.settings) logged)
      | .changing => { logged with engine := { logged.engine with cue := some { e with stopping := true } } }
      | .fadingIn =>
        let faded := engineRampUnowned 0 (stopFade s.path.settings) logged
        if e.cycle then
          { faded with engine := { faded.engine with cue := some { e with stopping := true, awaiting := false } } }
        else noExecuting faded

/-! ### Run-state requests (R5, R6) -/

/-- The run state becomes `r`. -/
def setRunState (r : RunState) (s : State) : State := { s with engine := { s.engine with runState := r } }

/-- The low 16 bits of a scheduled start one link margin from now (R16). -/
def startWord (s : State) : Word :=
  (s.clock.showClock + BitVec.ofNat 32 (linkMargin s.path.settings)).setWidth 16

/-- START (Table 1-4); the Bool says whether it was taken. -/
def requestStart (s : State) : State × Bool :=
  if s.engine.runState = .stopped then
    (setAudio (audioDefault s.path.settings) (deckRequest .play (setRunState .running s)), true)
  else (s, false)

/-- HOLD (Table 1-4), broadcast by a lead with followers. -/
def requestHold (s : State) : State × Bool :=
  if s.engine.runState = .running then
    (announce (.hold (startWord s)) (deckRequest .stop (setRunState .held s)), true)
  else (s, false)

/-- RESUME (Table 1-4), broadcast by a lead with followers. -/
def requestResume (s : State) : State × Bool :=
  if s.engine.runState = .held then
    (announce .resume (deckRequest .play (setRunState .running s)), true)
  else (s, false)

/-- LEARN (Table 1-4). -/
def requestLearn (s : State) : State × Bool :=
  if s.engine.runState = .stopped then (deckRequest .record (setRunState .learning s), true) else (s, false)

/-- STOP, taken in every run state (R6). -/
def requestStop (s : State) : State :=
  announce .stop (stopExecuting (fadeAudioOut (deckRequest .stop (clearQueue (setRunState .stopped s)))))

/-- RUNNING or LEARNING becomes HELD with a deck STOP (R7, for band HOT and a jam). -/
def holdShow (s : State) : State :=
  match s.engine.runState with
  | .running | .learning => deckRequest .stop (setRunState .held s)
  | _ => s

/-- RUNNING or LEARNING becomes HELD at tape end, with no deck request (R7). -/
def holdAtTapeEnd (s : State) : State :=
  match s.engine.runState with
  | .running | .learning => setRunState .held s
  | _ => s

/-- The abort of a change cycle: the executing cue ends, the show is held and the queue cleared (R25, R7). -/
def abortCycle (s : State) : State :=
  let ended :=
    match s.engine.cue with
    | some e =>
      if !e.cycle then s
      else if e.stopping then finishStopping s
      else noExecuting (postExecutingDropped e 2 s)
    | none => s
  clearQueue (holdShow ended)

/-! ### Advancing a change cue (R19, R20) -/

/-- A change cue or a FADE enters FADING_IN and asks for its fade-in ramp. While the lamp is going off the request is answered at
once, which counts as its "ramp done" (R20, R23, R61). -/
def enterFadingIn (e : Executing) (s : State) : State :=
  if s.lamp.goingOff.isSome then
    if e.cycle then
      { s with engine := { s.engine with cue := some { e with phase := .fadingIn, awaiting := false } } }
    else completeCue { e with phase := .fadingIn, awaiting := false } s
  else
    setRamp e.plan.level e.plan.fadeIn .engine
      { s with engine := { s.engine with cue := some { e with phase := .fadingIn, awaiting := true } } }

/-- The transport reports "cycle done", with the gate-seated timestamp where the seat was made (R19, R20, R6). -/
def cycleDone (seat : Option Clock32) (s : State) : State :=
  match s.engine.cue with
  | none => s
  | some e =>
    if !e.cycle then s
    else if e.stopping then finishStopping s
    else
      let e := { e with cycle := false, seat := seat }
      match e.phase with
      | .changing => enterFadingIn e s
      | .fadingIn =>
        if e.awaiting then { s with engine := { s.engine with cue := some e } } else completeCue e s
      | _ => { s with engine := { s.engine with cue := some e } }

/-- The transport reports the DROP phase start: a cue with EARLY_FADE enters FADING_IN (R20, R42). -/
def dropStarted (s : State) : State :=
  match s.engine.cue with
  | some e =>
    if e.phase = .changing ∧ e.cycle ∧ e.plan.early ∧ !e.stopping then enterFadingIn e s else s
  | none => s

end Sys2Proof.Machine
end

