-- ==== Sys2Proof/Machine/PowerOps.lean ====
section
/-! DEFINITION. The cooling and power unit's shared operations: the fan and its watch, changes of the power state, the test for
leaving SHUTDOWN, and cooldown owed (R85 to R99). -/

namespace Sys2Proof.Machine

/-- The fan duty becomes `f`. From 0 to above 0 an OFF watch spins up; at 0 a watch in SPIN_UP or WATCHING goes OFF, and a FAILED
one has no recovery run (R97, R98). -/
def setFan (f : Nat) (s : State) : State :=
  if f = 0 then
    { s with power := { s.power with
        fanDuty := 0, fanWatch := if s.power.fanWatch = .failed then .failed else .off,
        spinTimer := none, gapTimer := none, recovery := none } }
  else if s.power.fanWatch = .off then
    { s with power := { s.power with
        fanDuty := f, fanWatch := .spinUp, spinTimer := startTimer twoSeconds s } }
  else { s with power := { s.power with fanDuty := f } }

/-- The focus motor stops, its running time no longer counted (R54, R55). -/
def stopFocus (s : State) : State :=
  { s with transport := { s.transport with
      focus := .stopped, focusAllowance := pauseTimer s.clock.now s.transport.focusAllowance } }

/-- What entering power state `st` from `old` does inside the unit (R87, R91, R96). -/
def enterPower (old st : PowerState) (s : State) : State :=
  match st with
  | .standby => setFan 0 s
  | .runup =>
    setFan (fanMax s.path.settings) { s with power := { s.power with
        runupCount := 0, runupVs := 0, runupTimer := startTimer twoSeconds s } }
  | .on => s
  | .shutdown => if old = .standby then setFan (fanMax s.path.settings) s else s

/-- The power state becomes `st` for the cause with code `cause`: POWER is logged, the focus motor stops as ON is left, the run-up
timer stops as RUNUP is left (R85, R54). -/
def setPower (st : PowerState) (cause : Nat) (s : State) : State :=
  let old := s.power.state
  let s1 := postGate .power .cooling noCue st.code cause s
  let s2 := { s1 with power := { s1.power with state := st, runupTimer := none } }
  let s3 := if old = .on ∧ st ≠ .on then stopFocus s2 else s2
  enterPower old st s3

/-- The lamp is out: OFF or FAULT (R62). -/
def lampOut (s : State) : Bool := decide (s.lamp.state = .off) || decide (s.lamp.state = .fault)

/-- The three conditions of R91 in SHUTDOWN. -/
def shutdownReady (s : State) : Bool :=
  decide (s.power.state = .shutdown) && lampOut s && decide (s.transport.state ≠ .cycling) && !s.power.owed

/-- The test of R91: SHUTDOWN is left for STANDBY when the three conditions hold. -/
def testShutdown (s : State) : State := if shutdownReady s then setPower .standby 5 s else s

/-- Cooldown owed is set: the timer restarts, the fan runs at Fmax, and STANDBY is left for SHUTDOWN, at whose entry the engine
acts as on a STOP (R99, R7). -/
def oweCooldown (s : State) : State :=
  let s1 := setFan (fanMax s.path.settings) { s with power := { s.power with owed := true, cooldown := 0 } }
  if s.power.state = .standby then requestStop (setPower .shutdown 6 s1) else s1

end Sys2Proof.Machine
end

