-- ==== Sys2Proof/Machine/TransportOps.lean ====
section
/-! DEFINITION. The slide transport's shared operations: the cam table and its windows, tray moves, the parts of a change cycle,
jams, completion, and the focus motor (R29 to R56). -/

namespace Sys2Proof.Machine

/-! ### The cam table (R37, R38) -/

/-- Whether a window is active at cam angle `a` (R38). -/
def windowActive (w : CamWindow) (a : Nat) : Bool :=
  if w.on < w.off then decide (w.on ≤ a) && decide (a < w.off)
  else if w.off < w.on then decide (w.on ≤ a) || decide (a < w.off)
  else false

/-- Whether some window of function `f` is active at angle `a`. -/
def tableActive (t : CamTable) (f : CamFunction) (a : Nat) : Bool :=
  t.windows.any (fun w => decide (w.fn = f) && windowActive w a)

/-- A latched table is valid when its park angle lies inside a TRAY_FREE window (R37). -/
def tableValid (t : CamTable) : Bool := tableActive t .trayFree t.park

/-- Whether the cam angle is known and some window of function `f` of the latched table is active at it, during a cycle from the
latch onward (R38). -/
def camActive (t : Transport) (f : CamFunction) : Bool :=
  match t.phase, t.table, t.camAngle with
  | .none, _, _ => false
  | .camHome, _, _ => false
  | _, some tab, some a => tableActive tab f a
  | _, _, _ => false

/-- The shutter solenoid: energised in CAM_HOME and while a SHUTTER window is active (R38). -/
def shutterOn (t : Transport) : Bool := decide (t.phase = .camHome) || camActive t .shutter

/-- The auxiliary output (R38). -/
def auxOn (t : Transport) : Bool := camActive t .aux

/-- The focus motor is inhibited by the cam (R38). -/
def focusInhibited (t : Transport) : Bool := decide (t.phase = .camHome) || camActive t .focusHold

/-- Tray stepping is permitted by the cam (R33). -/
def trayFree (t : Transport) : Bool := camActive t .trayFree

/-- A FOCUS_HOLD window that is active stops a running motor at once (R54). -/
def focusGuard (s : State) : State :=
  if focusInhibited s.transport ∧ s.transport.focus ≠ .stopped then stopFocus s else s

/-- The transport latches the cam table of the settings in force, or the built-in one in its place (R37). -/
def latchTable (s : State) : State :=
  let t := camTableOf s.path.settings
  if tableValid t then { s with transport := { s.transport with table := some t, substituted := false } }
  else setFlag .camDefault { s with transport := { s.transport with table := some builtInTable, substituted := true } }

/-! ### Tray moves (R31, R32) -/

/-- Steps of a full turn of the tray, 64·M, for the latched tray size. -/
def turnSteps (t : Transport) : Nat := 64 * (t.size + 1)

/-- The shorter way from step count `c` to step count `d` round a turn of `m` steps: its direction and length (R31). -/
def shortestPath (m c d : Nat) : Dir × Nat :=
  let df := (d + m - c) % m
  if df ≤ m - df then (.forward, df) else (.reverse, m - df)

/-- The distance from step count `c` to `d` in direction `dir` round a turn of `m` steps. -/
def distanceIn (m c d : Nat) : Dir → Nat
  | .forward => (d + m - c) % m
  | .reverse => (c + m - d) % m

/-- The rate of the next step: min(Rmax, Rstart + Racc × min(j, remaining − 1)), and Rstart in a search (R32, R49). -/
def stepRate (v : Move) : Nat :=
  if v.search then v.rStart else min v.rMax (v.rStart + v.rAcc * min v.done (v.remaining - 1))

/-- The interval before the next step in µs (R32). -/
def stepInterval (v : Move) : Nat := 1000000 / stepRate v

/-- A move with its rates read from the settings in force. -/
def withRates (b : Bytes) (v : Move) : Move := { v with rStart := rStart b, rAcc := rAcc b, rMax := rMax b }

/-- The tray's move is complete: no step remains and no search runs. -/
def moveComplete (t : Transport) : Bool :=
  match t.move with
  | none => true
  | some v => !v.search && decide (v.remaining = 0)

/-- The move begins, or resumes, as a fresh profile over the steps remaining, when a TRAY_FREE window is active; otherwise it waits
in status `wait` for one (R32, R33, R34, R40). -/
def beginMove (wait : MoveStatus) (v : Move) (s : State) : State :=
  if !v.search ∧ v.remaining = 0 then
    { s with transport := { s.transport with move := some { v with status := .stepping }, stepTimer := none } }
  else if trayFree s.transport then
    let v := withRates s.path.settings { v with status := .stepping, done := 0 }
    { s with transport := { s.transport with move := some v, stepTimer := startTimer (stepInterval v) s } }
  else { s with transport := { s.transport with move := some { v with status := wait }, stepTimer := none } }

/-- The move prepared for a change cycle in READY: from the step count to the target (R31, R40). -/
def preparedMove (t : Transport) : Move :=
  let p := shortestPath (turnSteps t) (t.stepCount.getD 0) (64 * t.target)
  { search := false, target := t.target, dir := p.1, status := .prepared, done := 0, remaining := p.2, searched := 0,
    rStart := 0, rAcc := 0, rMax := 0 }

/-- The search leg of a homing move (R49). -/
def searchMove (t : Transport) : Move :=
  { search := true, target := t.target, dir := .forward, status := .prepared, done := 0, remaining := 0, searched := 0,
    rStart := 0, rAcc := 0, rMax := 0 }

/-! ### The end of a cycle (R45, R50, R52) -/

/-- The motors stop where they stand; a stall pause, a suspended move and the seat watch are abandoned (R50, R52). -/
def stopMotors (s : State) : State :=
  { s with transport := { s.transport with
      phase := .none, camRunning := false, camTimer := { left := 0, due := none }, move := none, stepTimer := none,
      stallTimer := none, seatTimer := none } }

/-- The cycle ends in JAMMED with cause `c`: JAM is logged with the target and the cam angle, the abort goes to the cue engine and
the end of the cycle to the power unit (R50). -/
def jam (c : JamCause) (s : State) : State :=
  let angle : Nat := s.transport.camAngle.getD 65535
  let s1 := setFlag .jam (post .jam .transport noCue (toByte s.transport.target) c.code angle s)
  let s2 := stopMotors s1
  testShutdown (abortCycle { s2 with transport := { s2.transport with
      state := .jammed, jamCause := some c, slotInGate := none } })

/-- "Err" is shown: the Err timer starts afresh (R173). -/
def showErr (s : State) : State :=
  { s with handset := { s.handset with errTimer := startTimer twoSeconds s } }

/-- The handset logic posts a cue of its own source; a refusal shows "Err" (R170, R173, R175, R176). -/
def postHandset (k : CueKind) (s : State) : State :=
  let p := postCue .handset k none s
  match p.2 with
  | .refused => showErr p.1
  | _ => p.1

/-- The cycle completes (R45): the step count and position become the target, the slot in gate the target position, and the
transport enters READY, or UNHOMED when S in force changed meanwhile (R29). "Cycle done" goes to the engine, the end of the
cycle to the power unit, the entry to READY to the auto-repeat, which posts an ADVANCE while REPEATING (R176). -/
def completeCycle (s : State) : State :=
  let t := s.transport
  let s1 := stopMotors s
  let s2 :=
    if t.sizeChanged then
      { s1 with transport := { s1.transport with
          state := .unhomed, stepCount := none, position := none, slotInGate := none, sizeChanged := false } }
    else
      { s1 with transport := { s1.transport with
          state := .ready, stepCount := some (64 * t.target), position := some t.target, slotInGate := some t.target } }
  let s3 := testShutdown (cycleDone t.seatedAt s2)
  if !t.sizeChanged ∧ s3.handset.autoRepeat = .repeating then postHandset .advance s3 else s3

/-- The seat is made: the microsecond counter is the gate-seated timestamp, and the cycle completes (R43). -/
def seatMade (s : State) : State :=
  completeCycle { s with transport := { s.transport with seatedAt := some s.clock.micros } }

/-- Entry to SEAT (R43): at the gap the cycle completes with the gate as it stands; a SEATED gate makes the seat; otherwise the
gate is watched for the seat timeout, read here, once: the model's choice (assumption 34). -/
def enterSeat (s : State) : State :=
  let s := { s with transport := { s.transport with
      phase := .seat, camRunning := false, camTimer := { left := 0, due := none } } }
  if s.transport.gate = .seated then seatMade s
  else if s.transport.target = 0 then completeCycle s
  else { s with transport := { s.transport with seatTimer := startTimer (seatTimeout s.path.settings) s } }

/-! ### The cam in a cycle (R36, R40 to R42) -/

/-- The cam starts a revolution, timed afresh (R36). The cam timeout is read here, once for the revolution: the model's choice
(assumption 34). -/
def startRevolution (s : State) : State :=
  { s with transport := { s.transport with
      camRunning := true, camTimer := { left := 0, due := startTimer (camTimeout s.path.settings) s } } }

/-- DROP begins and is reported to the cue engine (R42). -/
def enterDrop (s : State) : State :=
  dropStarted { s with transport := { s.transport with phase := .drop } }

/-- The tray's move has just become complete: a cam stopped in PARK starts again, and DROP begins (R41). -/
def moveEnded (s : State) : State :=
  let s := { s with transport := { s.transport with stepTimer := none } }
  if s.transport.phase = .park then
    enterDrop { s with transport := { s.transport with
        camRunning := true, camTimer := resumeTimer s.clock.now s.transport.camTimer } }
  else s

/-- A LIFT_CHECK window has just become active: the gate is read, and SEATED is a jam (R39). -/
def liftCheck (s : State) : State := if s.transport.gate = .seated then jam .lift s else s

/-- The normal part of a cycle starts with the cam at rest at its index (R40, R48): the table is latched, the move prepared, the
cam started, and the windows active at angle 0 become active. -/
def startNormal (v : Transport → Move) (s : State) : State :=
  let s := latchTable s
  let s := startRevolution { s with transport := { s.transport with
      phase := .lift, stalls := 0, retried := false, seatedAt := none } }
  let s := focusGuard (beginMove .prepared (v s.transport) s)
  match s.transport.table with
  | some tab => if tableActive tab .liftCheck 0 then liftCheck s else s
  | none => s

/-- The target position of a request from position `p` with tray size `size` (R30). -/
def targetOf (size p : Nat) : ChangeRequest → Nat
  | .fwd => (p + 1) % (size + 1)
  | .rev => (p + size) % (size + 1)
  | .goto v => min v size

/-- The target of a homing cycle: the requested slot, and slot 1 for FWD and REV (R48). -/
def homingTarget (size : Nat) : ChangeRequest → Nat
  | .goto v => min v size
  | _ => 1

/-- The transport is CYCLING, with the tray size and target latched at the cycle's start (R29, R30). -/
def enterCycling (target : Nat) (s : State) : State :=
  { s with transport := { s.transport with
      state := .cycling, size := traySize s.path.settings, sizeChanged := false, target := target, stalls := 0,
      retried := false, seatedAt := none } }

/-- A change request accepted in READY (R40). -/
def startChange (r : ChangeRequest) (s : State) : State :=
  startNormal preparedMove
    (enterCycling (targetOf (traySize s.path.settings) (s.transport.position.getD 0) r) s)

/-- A change request accepted in UNHOMED: a homing cycle, with CAM_HOME first unless the cam is referenced at angle 0 (R48). -/
def startHoming (r : ChangeRequest) (s : State) : State :=
  let s := enterCycling (homingTarget (traySize s.path.settings) r) s
  if s.transport.camAngle = some 0 then startNormal searchMove s
  else focusGuard (startRevolution { s with transport := { s.transport with phase := .camHome, table := none } })

/-- What the transport answers to a change request (Table 2-3). -/
inductive ChangeAnswer where
  | change
  | homing
  | refusedState
  | aborted
  deriving DecidableEq, Repr

/-- Table 2-3. -/
def changeAnswer (s : State) : ChangeAnswer :=
  match s.transport.state with
  | .cycling => .refusedState
  | .jammed | .noTray => .aborted
  | .ready => if s.power.state = .on ∨ s.power.state = .shutdown then .change else .aborted
  | .unhomed => if s.power.state = .on ∨ s.power.state = .shutdown then .homing else .aborted

/-- The cue engine's change request (R30). Refused and reported as an abort, it acts on the engine as R25 gives. -/
def changeRequest (r : ChangeRequest) (s : State) : State :=
  match changeAnswer s with
  | .change => startChange r s
  | .homing => startHoming r s
  | .refusedState => s
  | .aborted => abortCycle s

/-- The request an execution makes of the transport (R19). -/
def requestOf (p : Plan) : ChangeRequest :=
  match p.action with
  | .changeRev => .rev
  | .goto => .goto p.slot
  | _ => .fwd

/-- A change cue enters CHANGING and sends its change request; its cycle is in flight (R19). -/
def enterChanging (e : Executing) (s : State) : State :=
  changeRequest (requestOf e.plan)
    { s with engine := { s.engine with cue := some { e with phase := .changing, awaiting := false, cycle := true } } }

/-- A change cue enters FADING_OUT and asks for its ramp to 0; while the lamp is going off the request is answered at once
(R19, R23, R61). -/
def enterFadingOut (e : Executing) (s : State) : State :=
  if s.lamp.goingOff.isSome then enterChanging { e with phase := .fadingOut } s
  else
    setRamp 0 e.plan.fadeOut .engine
      { s with engine := { s.engine with cue := some { e with phase := .fadingOut, awaiting := true } } }

/-- "Ramp done", or "ramp taken over", for a ramp of the engine: it advances the executing cue when that cue awaits a ramp in its
phase, and is disregarded otherwise (R23). -/
def engineRampDone (s : State) : State :=
  match s.engine.cue with
  | none => s
  | some e =>
    if !e.awaiting then s
    else
      let e := { e with awaiting := false }
      match e.phase with
      | .fadingOut => enterChanging e s
      | .fadingIn =>
        if e.cycle then { s with engine := { s.engine with cue := some e } } else completeCue e s
      | _ => { s with engine := { s.engine with cue := some e } }

/-! ### Clearing a jam, and a change of tray size (R51, R29) -/

/-- CLEAR_JAM; the Bool says whether it was taken (R51). -/
def clearJam (s : State) : State × Bool :=
  if s.transport.state = .jammed then
    ({ s with transport := { s.transport with
        state := .unhomed, jamCause := none, stepCount := none, position := none, slotInGate := none } }, true)
  else (s, false)

/-- S in force has changed (R29). -/
def sizeChange (s : State) : State :=
  match s.transport.state with
  | .ready =>
    { s with transport := { s.transport with
        state := .unhomed, stepCount := none, position := none, slotInGate := none } }
  | .cycling => { s with transport := { s.transport with sizeChanged := true } }
  | _ => s

/-! ### The focus motor (R54, R55) -/

/-- Which focus key a report says is held; none for neither. -/
abbrev FocusReport := Option Dir

/-- The motor's motion for a held key: FOCUS_IN is `forward` here, FOCUS_OUT `reverse`. -/
def focusMotion : Dir → FocusMotor
  | .forward => .inward
  | .reverse => .outward

/-- A full allowance, not running. -/
def fullAllowance : PauseTimer := { left := focusAllowanceUs, due := none }

/-- A report of the handset logic to the focus motor (R54, R55). A report of another key ends the hold of the first: the motor
stops, and the new hold has a full allowance. -/
def focusReport (r : FocusReport) (s : State) : State :=
  match r with
  | none =>
    { s with transport := { s.transport with focus := .stopped, focusKey := none, focusAllowance := fullAllowance } }
  | some d =>
    let allow :=
      if s.transport.focusKey = some d then s.transport.focusAllowance else fullAllowance
    let spent := decide (allow.left = 0 ∧ allow.due = none)
    if s.power.state = .on ∧ !focusInhibited s.transport ∧ !spent then
      { s with transport := { s.transport with
          focus := focusMotion d, focusKey := some d, focusAllowance := resumeTimer s.clock.now allow } }
    else
      { s with transport := { s.transport with
          focus := .stopped, focusKey := some d, focusAllowance := pauseTimer s.clock.now allow } }

end Sys2Proof.Machine
end

