-- ==== Sys2Proof/Machine/LampOps.lean ====
section
/-! DEFINITION. The lamp controller's shared operations: turning on and off, the going-off mark, socket failure, the carriage, the
ramp stage, the duty stages and the usage counts (R58 to R82); and the changes of power state that reach the lamp (R86 to R90). -/

namespace Sys2Proof.Machine

/-! ### Leaving LIT, and lamp states (R82, R62) -/

/-- The lamp controller's report as the lamp leaves LIT: cooldown is owed when either socket has had duty within the last 60 s
(R82, R99). -/
def leftLit (s : State) : State :=
  if s.lamp.usePrimary.dark < 6000 ∨ s.lamp.useSpare.dark < 6000 then oweCooldown s else s

/-- The lamp leaves LIT for state `st` with duty 0; the power unit hears that cooldown may be owed before it tests R91 (R91). -/
def leaveLit (st : LampState) (s : State) : State :=
  testShutdown (leftLit { s with lamp := { s.lamp with state := st, duty := 0, openCount := 0 } })

/-- The off ramp is complete: a LIT lamp that is going off goes OFF with the mark cleared; a SWAPPING one keeps the mark (R62). -/
def offRampDone (s : State) : State :=
  if s.lamp.state = .lit ∧ s.lamp.goingOff.isSome then
    leaveLit .off { s with lamp := { s.lamp with goingOff := none } }
  else s

/-- The ramp's last period: k becomes k + 1 and has reached N, the level becomes L1 and its requester hears of it (R65). -/
def rampDone (s : State) : State :=
  let req := s.lamp.ramp.requester
  let s := { s with lamp := { s.lamp with
      level := s.lamp.ramp.l1, ramp := { s.lamp.ramp with k := s.lamp.ramp.k + 1, active := false } } }
  match req with
  | some .engine => engineRampDone s
  | some .off => offRampDone s
  | none => s

/-- The ramp stage of a lamp period (R65). -/
def rampStage (s : State) : State :=
  let r := s.lamp.ramp
  if !r.active then s
  else if r.k + 1 < r.n then
    { s with lamp := { s.lamp with
        level := lerp r.l0 r.l1 (r.k + 1) r.n, ramp := { r with k := r.k + 1 } } }
  else rampDone s

/-! ### Off requests (R61) -/

/-- An off request over `t` periods, recorded as `who`: LIT or SWAPPING, the ramp is retargeted to 0 and the lamp marked going off;
a ramp of the cue engine so replaced is reported taken over (R61, R64). -/
def offRequest (who : OffRequest) (t : Nat) (s : State) : State :=
  if s.lamp.state = .lit ∨ s.lamp.state = .swapping then
    let replaced := s.lamp.ramp.active && decide (s.lamp.ramp.requester = some .engine)
    let s := setRamp 0 t .off s
    let s := { s with lamp := { s.lamp with goingOff := some who } }
    if replaced then engineRampDone s else s
  else s

/-! ### The carriage (R58, R59, R75 to R79) -/

/-- The carriage position as the end switches report it (R58). -/
def carriagePosition (l : Lamp) : CarriagePosition := carriageOf l.endPrimary l.endSpare

/-- The carriage position that is a socket's end stop. -/
def stopOf : Socket → CarriagePosition
  | .primary => .primary
  | .spare => .spare

/-- The other socket. -/
def otherSocket : Socket → Socket
  | .primary => .spare
  | .spare => .primary

/-- The state of a socket. -/
def socketState (l : Lamp) : Socket → SocketState
  | .primary => l.primary
  | .spare => l.spare

/-- Whether a socket's end switch is made. -/
def endSwitch (l : Lamp) : Socket → Bool
  | .primary => l.endPrimary
  | .spare => l.endSpare

/-- With the motor at rest the active socket equals a known carriage position (R58). -/
def followCarriage (s : State) : State :=
  match carriagePosition s.lamp with
  | .primary => { s with lamp := { s.lamp with active := .primary } }
  | .spare => { s with lamp := { s.lamp with active := .spare } }
  | .unknown => s

/-- The carriage motor starts toward socket `x`, which becomes the active socket; the lamp is SWAPPING and dark (R59). -/
def startSwap (x : Socket) (failure : Bool) (s : State) : State :=
  { s with lamp := { s.lamp with
      state := .swapping, active := x, duty := 0, openCount := 0, carriageTimer := startTimer twoSeconds s,
      swapStart := s.clock.now, failureSwap := failure } }

/-- The lamp enters FAULT from a state that is not LIT, the going-off mark cleared; the power unit hears that it is out
(R62, R77). -/
def enterFault (s : State) : State :=
  testShutdown { s with lamp := { s.lamp with state := .fault, goingOff := none, duty := 0, carriageTimer := none } }

/-- NO_LAMP is posted and flagged (R60, R75, R77). -/
def postNoLamp (reason socket : Nat) (s : State) : State :=
  setFlag .noLamp (postGate .noLamp .lamp noCue reason socket s)

/-- The carriage reaches the active socket: LIT, or OFF when the off ramp has completed meanwhile (R76, R62). Going OFF here does
not leave LIT, so no cooldown is reported: the model's choice (assumption 37). R76 gives the logged travel in milliseconds and
neither its rounding nor its clock: the model takes the floor of the microseconds on `Clock.now`, its choice (assumption 42). -/
def carriageArrived (s : State) : State :=
  let travel := (s.clock.now - s.lamp.swapStart) / 1000
  let s1 :=
    if s.lamp.failureSwap then postGate .lampSwapped .lamp noCue s.lamp.active.code travel s else s
  let s2 := { s1 with lamp := { s1.lamp with carriageTimer := none, failureSwap := false, duty := 0 } }
  if s2.lamp.goingOff.isSome ∧ !s2.lamp.ramp.active then
    testShutdown { s2 with lamp := { s2.lamp with state := .off, goingOff := none } }
  else { s2 with lamp := { s2.lamp with state := .lit } }

/-- The kinds of socket failure, as LAMP_FAILED carries them (R75). -/
inductive Failure where
  | openFilament
  | overcurrent
  deriving DecidableEq, Repr

/-- R75: OPEN 1, OVERCURRENT 2. -/
def Failure.code : Failure → Nat
  | .openFilament => 1 | .overcurrent => 2

/-- The fault flag of a socket. -/
def socketFlag : Socket → FaultFlag
  | .primary => .primaryFailed
  | .spare => .spareFailed

/-- Marks a socket as `x`. -/
def setSocket (k : Socket) (x : SocketState) (l : Lamp) : Lamp :=
  match k with
  | .primary => { l with primary := x }
  | .spare => { l with spare := x }

/-- The active socket fails (R75): LAMP_FAILED and its flag; then the swap to a GOOD other socket when auto-spare is set, or
FAULT with NO_LAMP. Reason 1 takes precedence where the other socket is FAILED and auto-spare is off as well: the model's choice
(assumption 35). -/
def socketFails (kind : Failure) (s : State) : State :=
  let x := s.lamp.active
  let s1 := setFlag (socketFlag x) (postGate .lampFailed .lamp noCue x.code kind.code
    { s with lamp := setSocket x .failed s.lamp })
  if optAutoSpare s.path.settings ∧ socketState s.lamp (otherSocket x) = .good then
    startSwap (otherSocket x) true (leaveLit .swapping s1)
  else
    postNoLamp (if socketState s.lamp (otherSocket x) = .failed then 1 else 2) x.code
      (leaveLit .fault { s1 with lamp := { s1.lamp with goingOff := none } })

/-! ### LAMP_ON, LAMP_OFF, LAMP_REPLACED (R60, R61, R63) -/

/-- The socket LAMP_ON chooses to light, none when neither is GOOD (R60). -/
def chosenSocket (l : Lamp) : Option Socket :=
  match carriagePosition l with
  | .unknown =>
    if l.primary = .good then some .primary else if l.spare = .good then some .spare else none
  | _ =>
    if socketState l l.active = .good then some l.active
    else if socketState l (otherSocket l.active) = .good then some (otherSocket l.active)
    else none

/-- The going-off mark is cancelled: a ramp toward 0 runs on with no requester (R62). -/
def cancelOff (l : Lamp) : Lamp :=
  { l with
    goingOff := none
    ramp := { l.ramp with requester := if l.ramp.requester = some .off then none else l.ramp.requester } }

/-- LAMP_ON; the Bool says whether it was taken (R60). -/
def lampOn (s : State) : State × Bool :=
  if s.power.state ≠ .on then (s, false)
  else
    match s.lamp.state with
    | .fault => (s, false)
    | .lit | .swapping => ({ s with lamp := cancelOff s.lamp }, true)
    | .off =>
      match chosenSocket s.lamp with
      | none =>
        (postNoLamp 1 65535 { s with lamp := { s.lamp with state := .fault, goingOff := none } }, false)
      | some x =>
        if stopOf x = carriagePosition s.lamp then
          ({ s with lamp := { s.lamp with state := .lit, active := x, duty := 0, openCount := 0, goingOff := none } }, true)
        else (startSwap x false { s with lamp := { s.lamp with goingOff := none } }, true)

/-- LAMP_OFF: always taken (R61). -/
def lampOff (s : State) : State := offRequest .control (stopFade s.path.settings) s

/-- LAMP_REPLACED with argument A; the Bool says whether A names a socket (R63). -/
def lampReplaced (a : Nat) (s : State) : State × Bool :=
  if 1 < a then (s, false)
  else
    let x := if a = 0 then Socket.primary else Socket.spare
    let l := setSocket x .good s.lamp
    ({ s with lamp := { l with state := if l.state = .fault then .off else l.state } }, true)

/-! ### The duty (R67 to R72) -/

/-- The power of a level through the monotone curve (R68). -/
def curvePower (b : Bytes) (level : Nat) : Nat :=
  let i := level / 64
  if 16 ≤ i then curveAt b 16
  else curveAt b i + (curveAt b (i + 1) - curveAt b i) * (level % 64) / 64

/-- The economy stage (R69). -/
def economyPower (b : Bytes) (economy : Bool) (p : Nat) : Nat :=
  p * (if economy then economyFactor b else 16) / 16

/-- Whether the lamp is blanked: the option is set and the gate reads EMPTY or the transport is JAMMED (R70). -/
def blanked (s : State) : Bool :=
  optBlank s.path.settings &&
    (decide (s.transport.gate = .empty) || decide (s.transport.state = .jammed))

/-- Blanking, floor and cap (R70). -/
def cappedPower (s : State) (pe : Nat) : Nat :=
  let floored := max (if blanked s then 0 else pe) (keepAlive s.path.settings)
  if s.power.band = .warm then min floored (derateCap s.path.settings) else floored

/-- The power of the present level after stages 2 to 4. -/
def stagedPower (s : State) : Nat :=
  cappedPower s (economyPower s.path.settings s.handset.economy (curvePower s.path.settings s.lamp.level))

/-- The supply is low (R71). -/
def supplyLow (b : Bytes) (vs : Nat) : Bool := decide (2 * vs < nominalSupply b)

/-- Draw of the supply compensation stage (R71). -/
def compensated (b : Bytes) (pf vs : Nat) : Nat :=
  if supplyLow b vs then 0 else min 4095 (pf * (nominalSupply b * nominalSupply b) / (vs * vs))

/-- Dout of the slew stage (R72). -/
def slewed (b : Bytes) (draw prev : Nat) : Nat := min draw (prev + slewStep b)

/-- The lamp may be driven: LIT, mains enable asserted, the band not HOT, the fan not FAILED (R67). -/
def mayDrive (s : State) : Bool :=
  decide (s.lamp.state = .lit) && mainsOn s && decide (s.power.band ≠ .hot) && decide (s.power.fanWatch ≠ .failed)

/-- SUPPLY is posted and flagged as the low-supply count reaches 50 (R71). -/
def postLowSupply (vs : Nat) (s : State) : State :=
  setFlag .supply (postGate .supply .lamp noCue vs (nominalSupply s.path.settings) s)

/-- The supply reading's effect on the low-supply count, in a period that computes a duty (R71). -/
def countLowSupply (vs : Nat) (s : State) : State :=
  if supplyLow s.path.settings vs then
    let s' := { s with lamp := { s.lamp with lowCount := min 50 (s.lamp.lowCount + 1) } }
    if s.lamp.lowCount = 49 then postLowSupply vs s' else s'
  else { s with lamp := { s.lamp with lowCount := 0 } }

/-- Stages 2 to 6 where the lamp may be driven, darkness otherwise (R67 to R72). -/
def dutyStage (vs : Nat) (s : State) : State :=
  if mayDrive s then
    let d := slewed s.path.settings (compensated s.path.settings (stagedPower s) vs) s.lamp.duty
    let s' := countLowSupply vs s
    { s' with lamp := { s'.lamp with duty := d } }
  else { s with lamp := { s.lamp with duty := 0, lowCount := 0, openCount := 0 } }

/-! ### The lamp current (R73, R74) -/

/-- The lamp current test of a period in which the lamp is LIT; overcurrent is the failure recorded when both are found. -/
def currentTest (im : Nat) (s : State) : State :=
  if s.lamp.state ≠ .lit then { s with lamp := { s.lamp with openCount := 0 } }
  else if currentMax s.path.settings < im then socketFails .overcurrent s
  else if 256 ≤ s.lamp.duty ∧ im < currentMin s.path.settings then
    if 2 ≤ s.lamp.openCount then socketFails .openFilament s
    else { s with lamp := { s.lamp with openCount := s.lamp.openCount + 1 } }
  else { s with lamp := { s.lamp with openCount := 0 } }

/-! ### Usage (R80, R81) -/

/-- One socket's dark count and starts at a lamp period in which it has duty or not (R80). -/
def usagePeriod (driven : Bool) (u : Usage) : Usage :=
  if driven then
    { u with dark := 0, starts := if 6000 ≤ u.dark then satInc 65535 u.starts else u.starts }
  else { u with dark := satInc 6000 u.dark }

/-- The usage counts of a lamp period (R80). -/
def countUsage (s : State) : State :=
  { s with lamp := { s.lamp with
      usePrimary := usagePeriod (decide (s.lamp.active = .primary) && decide (0 < s.lamp.duty)) s.lamp.usePrimary
      useSpare := usagePeriod (decide (s.lamp.active = .spare) && decide (0 < s.lamp.duty)) s.lamp.useSpare } }

/-- One second of burning: the seconds accumulator, and the minutes at 60 (R81). -/
def usageSecond (u : Usage) : Usage :=
  if 60 ≤ u.seconds + 1 then { u with seconds := 0, minutes := satInc 4294967295 u.minutes }
  else { u with seconds := u.seconds + 1 }

/-! ### Changes of power state that reach the lamp and the show (R86 to R90) -/

/-- ON is left for SHUTDOWN: the engine acts as on a STOP, the lamp fades over the power fade, and R91 is tested (R89). -/
def shutdownFromOn (cause : Nat) (s : State) : State :=
  testShutdown (offRequest .power (powerFade s.path.settings) (requestStop (setPower .shutdown cause s)))

/-- RUNUP ends without the supply good: STANDBY, or SHUTDOWN when cooldown is owed (R87). -/
def leaveRunup (cause : Nat) (s : State) : State :=
  if s.power.owed then testShutdown (requestStop (setPower .shutdown cause s)) else setPower .standby cause s

/-- SHUTDOWN is left for ON: cooldown owed is cleared (R90). -/
def returnToOn (cause : Nat) (s : State) : State :=
  let s := setPower .on cause s
  { s with power := { s.power with owed := false, cooldown := 0 } }

/-- RUNUP ends with the supply good (R87, R88). -/
def supplyGood (s : State) : State := setPower .on 3 s

/-- The duty of a lamp period is handed to the power unit, which smooths it, and to the usage counting (R72, R81, R95). -/
def handDuty (s : State) : State := { s with power := { s.power with handed := s.lamp.duty } }

/-- The lamp controller hands over the supply reading at a lamp period in RUNUP (R87). -/
def runupReading (vs : Nat) (s : State) : State :=
  if s.power.state ≠ .runup then s
  else if 7 * nominalSupply s.path.settings ≤ 8 * vs then
    let s' := { s with power := { s.power with runupVs := vs, runupCount := s.power.runupCount + 1 } }
    if 10 ≤ s'.power.runupCount then supplyGood s' else s'
  else { s with power := { s.power with runupVs := vs, runupCount := 0 } }

/-- POWER_ON, with its control result (Table 4-3). -/
def powerOnRequest (cause : Nat) (s : State) : State × Bool :=
  match s.power.state with
  | .standby => (setPower .runup cause s, true)
  | .shutdown => (returnToOn cause s, true)
  | _ => (s, false)

/-- POWER_OFF, with its control result (Table 4-3). -/
def powerOffRequest (cause : Nat) (s : State) : State × Bool :=
  match s.power.state with
  | .runup => (leaveRunup cause s, true)
  | .on => (shutdownFromOn cause s, true)
  | _ => (s, false)

/-- The power key (Table 4-3). -/
def powerKeyPressed (s : State) : State :=
  match s.power.state with
  | .standby => setPower .runup 1 s
  | .runup => leaveRunup 1 s
  | .on => shutdownFromOn 1 s
  | .shutdown => returnToOn 1 s

end Sys2Proof.Machine
end

