-- ==== Sys2Proof/Machine/HandsetOps.lean ====
section
/-! DEFINITION. The handset logic: reports, counted presses, the keys, the slot entry and the auto-repeat (R168 to R176, R179). -/

namespace Sys2Proof.Machine

/-- A report of the line unit: the two bytes of a good reply, or none for an unanswered poll (R168). -/
abbrev HandsetReport := Option (Byte × Byte)

/-- The held flag of a reply's second byte (Table 7-3). -/
def replyHeld (b : Byte) : Bool := b.getLsbD 7

/-- The press count of a reply's second byte (Table 7-3). -/
def replyCount (b : Byte) : Nat := b.toNat % 16

/-- The keys of Table 8-1. -/
inductive Key where
  | advance
  | reverse
  | focusIn
  | focusOut
  | go
  | clear
  | runHold
  | lamp
  | digit (d : Nat)
  deriving DecidableEq, Repr

/-- The key a code names; 0, 9 and 20..255 name none (Table 8-1). -/
def keyOf (code : Nat) : Option Key :=
  match code with
  | 1 => some .advance
  | 2 => some .reverse
  | 3 => some .focusIn
  | 4 => some .focusOut
  | 5 => some .go
  | 6 => some .clear
  | 7 => some .runHold
  | 8 => some .lamp
  | _ => if 10 ≤ code ∧ code ≤ 19 then some (.digit (code - 10)) else none

/-- Whether a report counts a press: a good reply within 1 s of the last report whose press count differs from the last (R168). -/
def countsPress (s : State) : HandsetReport → Bool
  | none => false
  | some (_, b) =>
    match s.handset.lastCount, s.handset.lastReport with
    | some c, some t => decide (elapsed s.clock.showClock t ≤ 1000) && decide (replyCount b ≠ c)
    | _, _ => false

/-- The entry with digit `d` appended: the last three digits typed (R174). -/
def appendDigit (d : Nat) (e : List Nat) : List Nat := (if 3 ≤ e.length then e.drop (e.length - 2) else e) ++ [d]

/-- The number the digits of the entry spell (R174). -/
def entryValue (e : List Nat) : Nat := e.foldl (fun v d => 10 * v + d) 0

/-- The entry becomes `e`. -/
def setEntry (e : List Nat) (s : State) : State := { s with handset := { s.handset with entry := e } }

/-- GO (R175). -/
def keyGo (s : State) : State :=
  let e := s.handset.entry
  if e = [] then showErr s
  else if traySize s.path.settings < entryValue e then showErr (setEntry [] s)
  else postHandset (.goto (entryValue e)) (setEntry [] s)

/-- RUN_HOLD (R171). -/
def keyRunHold (s : State) : State :=
  match s.engine.runState with
  | .stopped => (requestStart s).1
  | .running => (requestHold s).1
  | .held => (requestResume s).1
  | .learning => showErr s

/-- LAMP (R172). -/
def keyLamp (s : State) : State :=
  match s.lamp.state with
  | .off =>
    let r := lampOn s
    if r.2 then r.1 else showErr r.1
  | .lit | .swapping => { s with handset := { s.handset with economy := !s.handset.economy } }
  | .fault => showErr s

/-- A key's own effect (Table 8-2). -/
def keyEffect (s : State) : Key → State
  | .advance => postHandset .advance s
  | .reverse => postHandset .reverse s
  | .focusIn => s
  | .focusOut => s
  | .go => keyGo s
  | .clear => (clearJam (setEntry [] s)).1
  | .runHold => keyRunHold s
  | .lamp => keyLamp s
  | .digit d => setEntry (appendDigit d s.handset.entry) s

/-- The entry timer after a counted press: restarted while the entry is not empty, stopped when it is (R174). -/
def restartEntryTimer (s : State) : State :=
  { s with handset := { s.handset with
      entryTimer := if s.handset.entry = [] then none else startTimer entryTimerUs s } }

/-- A counted press of a key: "Err" ends, the key acts, the entry timer restarts (R173, R174). -/
def pressKey (k : Key) (s : State) : State :=
  restartEntryTimer (keyEffect { s with handset := { s.handset with errTimer := none } } k)

/-- The auto-repeat at a report (R176): a counted ADVANCE starts or stops it by its held flag, an uncounted one still held leaves
it, any other report ends the hold. -/
def repeatAt (pressed : Bool) (r : HandsetReport) (s : State) : State :=
  match r with
  | some (code, b) =>
    if code = 1 ∧ replyHeld b then
      if pressed then
        { s with handset := { s.handset with autoRepeat := .timing, holdTimer := startTimer oneSecond s } }
      else s
    else { s with handset := { s.handset with autoRepeat := .none, holdTimer := none } }
  | none => { s with handset := { s.handset with autoRepeat := .none, holdTimer := none } }

/-- Which focus key a report says is held (R169). -/
def focusOf : HandsetReport → FocusReport
  | some (code, b) =>
    if code = 3 ∧ replyHeld b then some .forward else if code = 4 ∧ replyHeld b then some .reverse else none
  | none => none

/-- What every report records: its time, the report state, and a good reply's press count (R168). -/
def recordReport (r : HandsetReport) (s : State) : State :=
  { s with handset := { s.handset with
      lastCount := (match r with | some (_, b) => some (replyCount b) | none => s.handset.lastCount)
      lastReport := some s.clock.showClock
      report := (match r with | some (code, b) => some (code, replyHeld b) | none => none) } }

/-- A report of the line unit (R168, R169, R176). -/
def handsetReport (r : HandsetReport) (s : State) : State :=
  let pressed := countsPress s r
  let s1 := recordReport r s
  let s2 :=
    match r with
    | some (code, _) =>
      if pressed then
        match keyOf code.toNat with
        | some k => pressKey k s1
        | none => s1
      else s1
    | none => s1
  focusReport (focusOf r) (repeatAt pressed r s2)

/-- The handset logic at a change of the line role; economy is kept (R179). -/
def handsetRoleChange (s : State) : State :=
  focusReport none { s with handset := { resetHandset with economy := s.handset.economy } }

end Sys2Proof.Machine
end

