-- ==== Sys2Proof/Machine/StationOps.lean ====
section
/-! DEFINITION. The line unit's operations that reach the handset logic: leaving the powered states, the end of a poll exchange,
LINE_RESET, a restart in another role, and a change of the follower count (R144, R148 to R151, R154, R160, R161). -/

namespace Sys2Proof.Machine

/-! ### Leaving the powered states (R148 to R151) -/

/-- What every departure from the powered states abandons, whatever state `st` is entered (R151). A broadcast being sent is still at
the head of its queue and a SYNC being sent is still due, for each is removed only at its last stop bit. -/
def abandonLine (st : LineState) (l : Line) : Line :=
  { l with
    state := st, current := none, frameEnd := none, window := none, badFrame := false, holdOff := false, settle := none,
    pollList := [], pollPeriod := none, noAnswer := none, syncTimer := none }

/-- The lead leaves the powered states for `st` (R151): the handset logic hears of an unanswered poll; but for RETRY_WAIT the line
is taken to be without followers. -/
def leavePowered (st : LineState) (s : State) : State :=
  let s1 := handsetReport none { s with line := abandonLine st s.line }
  if st = .retryWait then s1 else lineWithoutFollowers s1

/-- The lead enters OFF and waits for the discharge time (R146). -/
def enterOff (s : State) : State :=
  { s with line := { s.line with
      state := .off, discharge := startTimer dischargeUs s, detectPeriod := none, detectCount := 0, retry := none,
      settle := none } }

/-- An overcurrent in a powered state (R148). -/
def overcurrent (s : State) : State :=
  let count := s.line.overcurrents + 1
  if count < 3 then
    let s1 := leavePowered .retryWait s
    { s1 with line := { s1.line with
        overcurrents := count, quiet := startTimer tenSeconds s, retry := startTimer oneSecond s } }
  else
    let s1 := leavePowered .lineFault s
    setFlag .lineFault (postGate .lineFault .line noCue count s.line.state.code
      { s1 with line := { s1.line with overcurrents := count, quiet := startTimer tenSeconds s } })

/-- The no-answer timer expires: detection begins afresh (R150). -/
def noAnswer (s : State) : State := enterDetect (leavePowered .detect s)

/-- LINE_RESET; the Bool says whether it was taken (R149). -/
def lineReset (s : State) : State × Bool :=
  match s.line.role with
  | .follower => (s, false)
  | .lead =>
    let s1 := { s with line := { s.line with overcurrents := 0, quiet := none } }
    if s.line.state = .lineFault then (enterDetect s1, true)
    else if s.line.state.powered then (enterOff (leavePowered .off s1), true)
    else (enterOff s1, true)

/-! ### The end of a poll exchange (R154, R160) -/

/-- The station whose poll exchange runs. -/
def polledStation (l : Line) : Option Nat :=
  match l.current with
  | some (.poll n) => some n
  | _ => none

/-- A good reply's data, to the handset logic when the handset sent it (R160, Table 7-3). -/
def reportData (n : Nat) (d : List Byte) (s : State) : State :=
  match n, d with
  | 0, code :: second :: _ => handsetReport (some (code, second)) s
  | _, _ => s

/-- A good reply of station `n` (R150, R160): PRESENT with no misses, its poll removed and the no-answer timer restarted. -/
def goodReply (n : Nat) (d : List Byte) (s : State) : State :=
  let l := setStation s.line n { present := true, misses := 0, last := some d }
  reportData n d { s with line := { l with noAnswer := startTimer tenSeconds s, pollList := s.line.pollList.drop 1 } }

/-- A miss of station `n` (R160): one more miss, ABSENT at three, its poll removed. -/
def missedReply (n : Nat) (s : State) : State :=
  let st := stationOf s.line n
  let misses := satInc 255 st.misses
  let l := setStation s.line n { st with misses := misses, present := st.present && decide (misses < 3) }
  let s1 := { s with line := { l with pollList := s.line.pollList.drop 1 } }
  if n = 0 then handsetReport none s1
  else if st.present ∧ 3 ≤ misses then stationLost n st s1
  else s1

/-- What the lead makes of the frame it received from the station polled (R154). At a framing error the miss is counted, the report
handed and the poll removed at the error, before the line is quiet: the model's choice (assumption 28). -/
def takeReply (rx : LineRx) (n : Nat) (s : State) : State :=
  match judge rx with
  | .good a k d => if a = n ∧ k = 16 then enterIdle (goodReply n d s) else enterIdle (missedReply n s)
  | .check => enterIdle (missedReply n s)
  | .framing =>
    let s1 := missedReply n s
    { s1 with line := { s1.line with badFrame := true } }

/-! ### Changes of the line settings (R144, R161) -/

/-- The line unit restarts in role `r` (R144): what was queued is logged, the stations are forgotten without a log entry. -/
def restartLine (r : Role) (s : State) : State :=
  let l := abandonLine (match r with | .lead => .off | .follower => .listening) s.line
  let s1 := dropBroadcasts { s with line := { l with
      role := r, discharge := none, detectPeriod := none, detectCount := 0, overcurrents := 0, quiet := none, retry := none,
      syncDue := false, handset := absentStation, follower1 := absentStation, follower2 := absentStation,
      follower3 := absentStation, offset := none, syncHeld := false, syncWatch := none } }
  match r with
  | .lead => enterOff s1
  | .follower => s1

/-- A change of the role in force: the line unit and the handset logic act at that moment (R144, R179). -/
def roleChange (r : Role) (s : State) : State := handsetRoleChange (restartLine r s)

/-- The records of the followers above `count` become ABSENT, with no entry (R161). -/
def forgetAbove (count : Nat) (l : Line) : Line :=
  { l with
    follower1 := if 1 ≤ count then l.follower1 else absentStation
    follower2 := if 2 ≤ count then l.follower2 else absentStation
    follower3 := if 3 ≤ count then l.follower3 else absentStation }

/-- Whether the poll at the head of the list is that of the exchange in progress; after a framing error it has been removed. -/
def inExchange (l : Line) : Bool := (polledStation l).isSome && !l.badFrame

/-- The poll list without the followers above `count`; the poll whose exchange runs stays at its head (R161, R158). -/
def keepPolls (count : Nat) (l : Line) : List Nat :=
  if inExchange l then
    match l.pollList with
    | [] => []
    | n :: t => n :: t.filter (fun m => decide (m ≤ count))
  else l.pollList.filter (fun m => decide (m ≤ count))

/-- The follower count in force changes from `old` (R157, R161). A SYNC falls due as it rises from 0, and a due one is
cancelled at 0. -/
def followerCountChange (old : Nat) (s : State) : State :=
  let count := followerCount s.path.settings
  let l : Line := { forgetAbove count s.line with pollList := keepPolls count s.line }
  if count = 0 then { s with line := { l with syncDue := false } }
  else if old = 0 ∧ l.role = .lead then chooseFrame { s with line := { l with syncDue := true } }
  else { s with line := l }

end Sys2Proof.Machine
end

