-- ==== Sys2Proof/Machine/Engine.lean ====
section
/-! DEFINITION. The cue engine's commands, CUE_TAKE and CUE_START, with the resolution of a taken cue and the start of an execution
(R10 to R27). -/

namespace Sys2Proof.Machine

/-! ### Taking and resolving (R10 to R13) -/

/-- The conditions under which the oldest cue is taken (R10). -/
def takeReady (s : State) : Bool :=
  decide (s.engine.queue ≠ []) && decide (s.engine.runState ≠ .held) &&
    (match s.engine.cue with
     | none => true
     | some e => decide (e.phase = .fadingIn) && !e.cycle)

/-- What the lookahead search finds: a match with the disabled entries passed, or the number of entries examined (R11). -/
inductive Lookup where
  | found (index disabled : Nat)
  | missed (examined : Nat)
  deriving DecidableEq, Repr

/-- The lookahead search from entry `i` over at most `fuel` more entries (R11). -/
def lookup (s : State) (n : Word) : Nat → Nat → Nat → Nat → Lookup
  | _, 0, _, examined => .missed examined
  | i, fuel + 1, disabled, examined =>
    if !entryLoaded s i then .missed examined
    else
      let c := (rawEntry s.path.program.bytes i).cueNo
      if c = noCue then lookup s n (i + 1) fuel (disabled + 1) (examined + 1)
      else if c = n then .found i disabled
      else lookup s n (i + 1) fuel disabled (examined + 1)

/-- The entry an ADVANCE executes, from entry `i` over `fuel` more: the first LOADED enabled one, with none that is not LOADED
before it (R12). -/
def candidate (s : State) : Nat → Nat → Option Nat
  | _, 0 => none
  | i, fuel + 1 =>
    if !entryLoaded s i then none
    else if (rawEntry s.path.program.bytes i).cueNo = noCue then candidate s (i + 1) fuel
    else some i

/-- The values of a plain action: the manual fades, and the level at the taking or 1024 (R12). -/
def plainPlan (a : Action) (slot : Nat) (s : State) : Plan :=
  { cueNo := noCue, entry := none, action := a, slot := slot, fadeOut := manualFadeOut s.path.settings,
    fadeIn := manualFadeIn s.path.settings, level := if s.lamp.level = 0 then 1024 else s.lamp.level, audio := none,
    broadcast := false, early := false, expected := none }

/-- An execution cuts the cue in FADING_IN (R14). -/
def cutFade (s : State) : State :=
  match s.engine.cue with
  | none => s
  | some e => noExecuting (postGate .cueFadeCut (.cue e.source) e.plan.cueNo s.lamp.level 0 s)

/-- The comparison of an entry's expected tape time with the deck's (R15). -/
def checkDrift (src : CueSource) (p : Plan) (s : State) : State :=
  match p.expected, s.deck.tapeTime with
  | some x, some t =>
    if driftTolerance s.path.settings < (x - t) + (t - x) then postGate .drift (.cue src) p.cueNo x t s else s
  | _, _ => s

/-! ### The start of an execution (R18 to R22) -/

/-- END's effects: the lamp to 0 over `t`, the deck to STOP or REWIND, the audio to 0, the queue cleared, STOPPED (R21). -/
def endShow (t : Nat) (s : State) : State :=
  let deck : DeckMode := if optAutoRewind s.path.settings then .rewind else .stop
  setRunState .stopped (clearQueue (fadeAudioOut (deckRequest deck (engineRampUnowned 0 t s))))

/-- A HOLD's effect in RUNNING (R13, R21). -/
def holdRunning (s : State) : State :=
  if s.engine.runState = .running then deckRequest .stop (setRunState .held s) else s

/-- The audio request of an entry that starts (R22); END has none of its own (R21). -/
def entryAudio (p : Plan) (s : State) : State :=
  match p.audio with
  | none => s
  | some a => if p.action = .endShow then s else audioRamp a p.fadeIn s

/-- The action of an execution that starts (R19 to R21). -/
def startAction (e : Executing) (s : State) : State :=
  match e.plan.action with
  | .nop => completeCue e s
  | .audio => completeCue e s
  | .hold => completeCue e (holdRunning s)
  | .endShow => completeCue e (endShow e.plan.fadeOut s)
  | .fade => enterFadingIn e s
  | .changeFwd => enterFadingOut e s
  | .changeRev => enterFadingOut e s
  | .goto => enterFadingOut e s

/-- The executing cue `e` starts: an entry's cue number becomes the last executed, its audio is requested, its action proceeds. The
microsecond counter at this moment is the start from which the gate latency counts (R18, R24). -/
def startCue (e : Executing) (s : State) : State :=
  let e := { e with startUs := s.clock.micros }
  let s1 :=
    if e.plan.entry.isSome then { s with engine := { s.engine with lastCue := e.plan.cueNo } } else s
  startAction e (entryAudio e.plan { s1 with engine := { s1.engine with cue := some e } })

/-! ### From a taken cue to its execution (R14 to R18, R27) -/

/-- A lead's scheduled start, one link margin from now (R16). -/
def broadcastStart (s : State) : Clock32 := s.clock.showClock + BitVec.ofNat 32 (linkMargin s.path.settings)

/-- The start time of an execution: T where the cue is broadcast, a LINK cue's scheduled start, the taking time otherwise
(R16, R17). -/
def startTime (c : Cue) (announced : Bool) (s : State) : Clock32 :=
  if announced then broadcastStart s
  else match c.source, c.start with
    | .link, some t => t
    | _, _ => s.clock.showClock

/-- CUE_LATE for a LINK cue taken more than 20 ms past its scheduled start (R17). `cueNo` is the executed entry's number, 0xFFFF for
a plain action, whatever the cue's kind: the model's choice (assumption 33). -/
def checkLate (c : Cue) (cueNo : Word) (start : Clock32) (s : State) : State :=
  let late := elapsed s.clock.showClock start
  if c.source = .link ∧ hasPassed s.clock.showClock start ∧ 20 < late then
    postGate .cueLate (.cue c.source) cueNo (min 65535 late) 0 s
  else s

/-- The learn-mode placement of a handset ADVANCE that executes an entry (R27, R140). -/
def learnPlacement (c : Cue) (p : Plan) (s : State) : State :=
  if s.engine.runState = .learning ∧ c.source = .handset ∧ c.kind = .advance ∧ p.entry.isSome then
    if 4095 < p.cueNo.toNat then postGate .recordMissed (.cue .handset) p.cueNo 65535 0 s
    else
      let r := placeFrame .handset 3 p.cueNo none s
      match r.2 with
      | none => r.1
      | some why => postGate .recordMissed (.cue .handset) p.cueNo why.code 0 r.1
  else s

/-- A cue that resolves to an execution: it cuts the cue in FADING_IN, is broadcast as `msg` gives, asks for its placement, and waits
for its start time or starts at once (R14, R16, R18). -/
def beginExecution (c : Cue) (p : Plan) (msg : Option LineMsg) (s : State) : State :=
  let announced := msg.isSome && broadcasts s
  let start := startTime c announced s
  let e : Executing :=
    { source := c.source, kind := c.kind, plan := p, startMs := start, startUs := s.clock.micros, phase := .waiting,
      awaiting := false, cycle := false, stopping := false, seat := none }
  let s1 := cutFade s
  let s2 := { s1 with engine := { s1.engine with cue := some e } }
  let s3 := match msg with
    | some m => announce m s2
    | none => s2
  let s4 := checkLate c p.cueNo start (learnPlacement c p s3)
  if hasPassed s.clock.showClock start then startCue e s4 else s4

/-- Entry `j` is taken for execution: the pointer moves past it, and it executes unless R2 finds it invalid. -/
def takeEntry (c : Cue) (j : Nat) (s : State) : State :=
  let r := rawEntry s.path.program.bytes j
  let s1 := { s with engine := { s.engine with pointer := j + 1 } }
  match planOf r j (traySize s.path.settings) with
  | none => postGate .entryInvalid (.cue c.source) r.cueNo j r.action s1
  | some p =>
    let msg : Option LineMsg :=
      match c.kind with
      | .numbered _ => if p.broadcast then some (.cue p.cueNo (startWord s)) else none
      | _ => some (.advance (startWord s))
    beginExecution c p msg (checkDrift c.source p s1)

/-- A NUMBERED cue is looked up (R11); in STOPPED, where none is queued, it is discarded (R9). -/
def takeNumbered (c : Cue) (n : Word) (s : State) : State :=
  if s.engine.runState = .stopped then s
  else
    let p := s.engine.pointer
    match lookup s n p (lookahead s.path.settings) 0 0 with
    | .missed k => postGate .cueUnexpected (.cue c.source) n p k s
    | .found j disabled =>
      takeEntry c j (if p < j then postGate .cueSkipped (.cue c.source) n (j - p) disabled s else s)

/-- An ADVANCE executes the next enabled entry, or is a plain forward change (R12). -/
def takeAdvance (c : Cue) (s : State) : State :=
  let plain := beginExecution c (plainPlan .changeFwd 0 s) (some (.advance (startWord s))) s
  if s.engine.runState = .stopped then plain
  else match candidate s s.engine.pointer (entriesInForce s - s.engine.pointer) with
    | some j => takeEntry c j s
    | none => plain

/-- A GOTO is a plain seek, unless S has fallen below its slot (R13). -/
def takeGoto (c : Cue) (slot : Nat) (s : State) : State :=
  if traySize s.path.settings < slot then postGate .cueDropped (.cue c.source) noCue 65535 c.kind.code s
  else beginExecution c (plainPlan .goto slot s) none s

/-- A taken cue is resolved by its kind (R11 to R13). -/
def resolveCue (c : Cue) (s : State) : State :=
  match c.kind with
  | .numbered n => takeNumbered c n s
  | .advance => takeAdvance c s
  | .reverse => beginExecution c (plainPlan .changeRev 0 s) (some (.reverse (startWord s))) s
  | .goto slot => takeGoto c slot s
  | .hold => holdRunning (announce (.hold (startWord s)) s)
  | .endShow => endShow (stopFade s.path.settings) (announce (.endShow (startWord s)) (cutFade s))

/-! ### The commands -/

/-- CUE_TAKE: the oldest queued cue is taken when R10's conditions hold. -/
def execCueTake (s : State) : Host.Outcome State Fault Refusal :=
  .next (if takeReady s then
    match s.engine.queue with
    | c :: rest => resolveCue c { s with engine := { s.engine with queue := rest } }
    | [] => s
  else s)

/-- CUE_START: the executing cue in WAITING starts (R18). -/
def execCueStart (s : State) : Host.Outcome State Fault Refusal :=
  .next (match s.engine.cue with
    | some e => if e.phase = .waiting then startCue e s else s
    | none => s)

end Sys2Proof.Machine
end

