-- ==== Sys2Proof/Machine/Transport.lean ====
section
/-! DEFINITION. The slide transport's commands: steps, stalls and index edges of the tray, counts and edges of the cam, the gate, the
tray sensor and the focus allowance (R32 to R55). -/

namespace Sys2Proof.Machine

/-! ### The tray (R32 to R35, R49) -/

/-- The move is replaced. -/
def setMove (v : Move) (s : State) : State := { s with transport := { s.transport with move := some v } }

/-- Whether a move is in progress: begun, and not complete (R35). -/
def inProgress (v : Move) : Bool :=
  decide (v.status ≠ .prepared) && (v.search || decide (0 < v.remaining))

/-- The step count after one step in direction `d` round a turn of `m` steps (R32). -/
def stepOn (m c : Nat) : Dir → Nat
  | .forward => (c + 1) % m
  | .reverse => (c + m - 1) % m

/-- Steps after which a search without the index is exhausted, 64·M + 64 (R49). -/
def searchLimit (t : Transport) : Nat := turnSteps t + 64

/-- The stepper waits `stepInterval` before the next step of `v`. -/
def awaitStep (v : Move) (s : State) : State :=
  { s with transport := { s.transport with move := some v, stepTimer := startTimer (stepInterval v) s } }

/-- A search takes a step; after the last of its steps it waits for the exhaustion (R49). -/
def searchStep (v : Move) (s : State) : State :=
  let v := { v with searched := v.searched + 1, done := v.done + 1 }
  if searchLimit s.transport ≤ v.searched then
    { s with transport := { s.transport with move := some v, stepTimer := none } }
  else awaitStep v s

/-- A move takes a step; after the last the move has ended (R32, R41). -/
def moveStep (v : Move) (s : State) : State :=
  let s := { s with transport := { s.transport with
      stepCount := s.transport.stepCount.map (fun c => stepOn (turnSteps s.transport) c v.dir) } }
  let v := { v with remaining := v.remaining - 1, done := v.done + 1 }
  if v.remaining = 0 then moveEnded (setMove v s) else awaitStep v s

/-- A due step: taken in a TRAY_FREE window, and the move suspended outside one (R33). -/
def dueStep (v : Move) (s : State) : State :=
  if !trayFree s.transport then
    { s with transport := { s.transport with move := some { v with status := .suspended }, stepTimer := none } }
  else if v.search then searchStep v s
  else moveStep v s

/-- TRAY_STEP (R32). -/
def execTrayStep (s : State) : Host.Outcome State Fault Refusal :=
  .next (match s.transport.state, s.transport.move with
    | .cycling, some v => if inProgress v ∧ v.status = .stepping then dueStep v s else s
    | _, _ => s)

/-- Whether a homing search has taken all its steps (R49). -/
def searchExhausted (t : Transport) : Bool :=
  match t.state, t.move with
  | .cycling, some v => v.search && decide (searchLimit t ≤ v.searched)
  | _, _ => false

/-- HOMING_SEARCH_EXHAUSTED (R49, R50). -/
def execHomingSearchExhausted (s : State) : Host.Outcome State Fault Refusal :=
  .next (if searchExhausted s.transport then jam .noIndex s else s)

/-- A stall of a stepping move: the pause, or at the second stall of the cycle the jam (R34). The stall pause time is read here, once
for the pause: the model's choice (assumption 34). -/
def stall (v : Move) (s : State) : State :=
  let s := { s with transport := { s.transport with stalls := s.transport.stalls + 1 } }
  if 2 ≤ s.transport.stalls then jam .tray s
  else
    { s with transport := { s.transport with
        move := some { v with status := .paused }, stepTimer := none,
        stallTimer := startTimer (stallPause s.path.settings) s } }

/-- STALL_SENSED (R34). -/
def execStallSensed (s : State) : Host.Outcome State Fault Refusal :=
  .next (match s.transport.state, s.transport.move with
    | .cycling, some v => if inProgress v ∧ v.status = .stepping then stall v s else s
    | _, _ => s)

/-- STALL_PAUSE_END: the steps remaining are taken as a fresh move (R34). -/
def execStallPauseEnd (s : State) : Host.Outcome State Fault Refusal :=
  .next (match s.transport.state, s.transport.move with
    | .cycling, some v =>
      if v.status = .paused then
        beginMove .suspended v { s with transport := { s.transport with stallTimer := none } }
      else s
    | _, _ => s)

/-- The move `v` takes the place of one in status `old`: complete at once, still in the stall pause, or begun afresh (R31, R35,
R49). -/
def replaceMove (old : MoveStatus) (v : Move) (s : State) : State :=
  if v.remaining = 0 then
    moveEnded { s with transport := { s.transport with move := some { v with status := .stepping }, stallTimer := none } }
  else if old = .paused then setMove { v with status := .paused, done := 0 } s
  else beginMove .suspended v s

/-- A new move from step count 0 to the target by the shortest path (R31). -/
def fromIndex (t : Transport) : Move := preparedMove { t with stepCount := some 0 }

/-- The error e of a step count at the index, −32·M..32·M − 1 (R35); `half` is 32·M. -/
def indexError (half c : Nat) : Int := if c < half then (c : Int) else (c : Int) - 2 * half

/-- TRAY_SLIP is posted and flagged (R35). -/
def postTraySlip (e : Int) (s : State) : State :=
  setFlag .traySlip (post .traySlip .transport noCue (toByte s.transport.target) (BitVec.ofInt 16 e).toNat
    s.transport.target s)

/-- The index edge during a move that is no search: the count is corrected and the rest of the move adjusted (R35). -/
def resync (v : Move) (s : State) : State :=
  let half := turnSteps s.transport / 2
  let e := indexError half (s.transport.stepCount.getD 0)
  let s1 := if -8 ≤ e ∧ e ≤ 8 then s else postTraySlip e s
  let s2 := { s1 with transport := { s1.transport with stepCount := some 0 } }
  let left := distanceIn (turnSteps s.transport) 0 (64 * v.target) v.dir
  if half < left then replaceMove v.status (fromIndex s2.transport) s2
  else if left = 0 then replaceMove v.status { v with remaining := 0 } s2
  else setMove { v with remaining := left } s2

/-- The index edge ends a search and the target leg begins (R49). -/
def endSearch (v : Move) (s : State) : State :=
  let s := { s with transport := { s.transport with stepCount := some 0, position := some 0, stepTimer := none } }
  replaceMove v.status (fromIndex s.transport) s

/-- TRAY_INDEX_EDGE (R35, R49). -/
def execTrayIndexEdge (s : State) : Host.Outcome State Fault Refusal :=
  .next (match s.transport.state, s.transport.move with
    | .cycling, some v =>
      if !inProgress v then s else if v.search then endSearch v s else resync v s
    | _, _ => s)

/-! ### The cam (R36 to R42) -/

/-- Whether some window of function `f` becomes active as the angle goes from `a` to `b` (R38). -/
def becomesActive (t : CamTable) (f : CamFunction) (a b : Nat) : Bool :=
  t.windows.any (fun w => decide (w.fn = f) && windowActive w b && !windowActive w a)

/-- A move that waits for a TRAY_FREE window begins or resumes in one (R33, R40). -/
def wakeMove (s : State) : State :=
  match s.transport.move with
  | some v =>
    if trayFree s.transport ∧ (v.status = .prepared ∨ v.status = .suspended) then beginMove .suspended v s else s
  | none => s

/-- The cam reaches the park angle in LIFT: it stops for a move that is not complete, and goes on into DROP otherwise (R41). -/
def reachPark (s : State) : State :=
  if moveComplete s.transport then enterDrop s
  else
    { s with transport := { s.transport with
        phase := .park, camRunning := false, camTimer := pauseTimer s.clock.now s.transport.camTimer } }

/-- What the cam's advance from `a` to `b` brings in a cycle under table `tab`: the lift check, the tray's permission, the park angle,
the focus motor's inhibition (R33, R38, R39, R41, R54). A LIFT_CHECK window that becomes active on the very count that reaches the park
angle is judged before the park angle is acted on, so that a jam there makes no DROP report: the model's choice (assumption 43). -/
def camAdvanced (tab : CamTable) (a b : Nat) (s : State) : State :=
  if becomesActive tab .liftCheck a b ∧ s.transport.gate = .seated then jam .lift s
  else
    let s := wakeMove s
    focusGuard (if s.transport.phase = .lift ∧ b = tab.park then reachPark s else s)

/-- CAM_ENCODER_COUNT (R36). -/
def execCamEncoderCount (s : State) : Host.Outcome State Fault Refusal :=
  .next (match s.transport.camRunning, s.transport.camAngle with
    | true, some a =>
      let b := (a + 1) % 180
      let s1 := { s with transport := { s.transport with camAngle := some b } }
      match s.transport.phase, s.transport.table with
      | .none, _ => s1
      | .camHome, _ => s1
      | _, some tab => camAdvanced tab a b s1
      | _, none => s1
    | _, _ => s)

/-- The cam, at rest at its index, begins the normal part of a homing cycle (R48). -/
def endCamHome (s : State) : State :=
  startNormal searchMove { s with transport := { s.transport with camRunning := false } }

/-- CAM_INDEX_EDGE: the angle is referenced, and a revolution completes (R36, R42, R44, R48). -/
def execCamIndexEdge (s : State) : Host.Outcome State Fault Refusal :=
  .next (
    let s1 := { s with transport := { s.transport with camAngle := some 0 } }
    if !s.transport.camRunning then focusGuard s1
    else match s.transport.phase with
      | .camHome => endCamHome s1
      | .drop => enterSeat (focusGuard s1)
      | .retry => enterSeat (focusGuard s1)
      | _ => focusGuard s1)

/-- CAM_TIMEOUT (R36). -/
def execCamTimeout (s : State) : Host.Outcome State Fault Refusal :=
  .next (if s.transport.state = .cycling ∧ s.transport.camRunning then jam .cam s else s)

/-! ### The gate and the tray sensor (R43, R44, R46, R52, R53) -/

/-- RETRY: one more revolution (R44). -/
def enterRetry (s : State) : State :=
  focusGuard (startRevolution { s with transport := { s.transport with
    phase := .retry, retried := true, seatTimer := none } })

/-- The seat timeout expires with the gate EMPTY: the cycle completes with an empty gate (R43, R44). -/
def emptyGate (s : State) : State :=
  completeCycle (post .emptySlot .transport noCue (toByte s.transport.target) (if s.transport.retried then 1 else 0) 0 s)

/-- SEAT_TIMEOUT (R43, R44). -/
def execSeatTimeout (s : State) : Host.Outcome State Fault Refusal :=
  .next (if s.transport.state = .cycling ∧ s.transport.phase = .seat then
    match s.transport.gate with
    | .seated => seatMade s
    | .empty => emptyGate s
    | .partialSeat => if s.transport.retried then jam .seat s else enterRetry s
  else s)

/-- GATE_CHANGE (R46, R43). -/
def execGateChange (g : GateReading) (s : State) : Host.Outcome State Fault Refusal :=
  .next (
    let s1 := { s with transport := { s.transport with gate := g } }
    if s.transport.state = .cycling ∧ s.transport.phase = .seat ∧ g = .seated then seatMade s1 else s1)

/-- The transport in NO_TRAY (R52). -/
def enterNoTray (s : State) : State :=
  let s1 := stopMotors s
  { s1 with transport := { s1.transport with
      state := .noTray, stepCount := none, position := none, slotInGate := none, jamCause := none } }

/-- TRAY_PULLED is posted and flagged (R52). -/
def postTrayPulled (s : State) : State :=
  setFlag .trayPulled (postGate .trayPulled .transport noCue s.transport.state.code s.transport.phase.code s)

/-- TRAY_REMOVED (R52). -/
def execTrayRemoved (s : State) : Host.Outcome State Fault Refusal :=
  .next (match s.transport.state with
    | .cycling => testShutdown (abortCycle (enterNoTray (postTrayPulled s)))
    | .ready => enterNoTray (if s.transport.position = some 0 then s else postTrayPulled s)
    | .unhomed => enterNoTray s
    | .jammed => enterNoTray s
    | .noTray => s)

/-- TRAY_INSERTED (R53). -/
def execTrayInserted (s : State) : Host.Outcome State Fault Refusal :=
  .next (if s.transport.state = .noTray then { s with transport := { s.transport with state := .unhomed } } else s)

/-- FOCUS_ALLOWANCE_SPENT (R55). -/
def execFocusAllowanceSpent (s : State) : Host.Outcome State Fault Refusal :=
  .next (if s.transport.focus ≠ .stopped then
    { s with transport := { s.transport with focus := .stopped, focusAllowance := { left := 0, due := none } } }
  else s)

end Sys2Proof.Machine
end

