-- ==== Sys2Proof/Machine/Clock.lean ====
section
/-! DEFINITION. The passage of time: which event the part owes itself now, and the microsecond that passes when it owes none
(assumption 1). -/

namespace Sys2Proof.Machine

/-- A timer's event, once its moment has come. -/
def whenDue (now : Nat) (t : Timer) (c : Instr) : Option Instr :=
  match t with
  | some d => if d ≤ now then some c else none
  | none => none

/-- The first event of a list of those that may be due. -/
def firstDue : List (Option Instr) → Option Instr
  | [] => none
  | some c :: _ => some c
  | none :: t => firstDue t

/-- A condition's event. -/
def whenHolds (b : Bool) (c : Instr) : Option Instr := if b then some c else none

/-- The executing cue's scheduled start has passed (R18). -/
def startPassed (s : State) : Bool :=
  match s.engine.cue with
  | some e => decide (e.phase = .waiting) && hasPassed s.clock.showClock e.startMs
  | none => false

/-- Conditions that act as soon as they hold (R10, R18, R49, R91). -/
def conditionEvents (s : State) : List (Option Instr) :=
  [whenHolds (takeReady s) .cueTake, whenHolds (startPassed s) .cueStart,
    whenHolds (searchExhausted s.transport) .homingSearchExhausted, whenHolds (shutdownReady s) .shutdownComplete]

/-- The transport's timers. -/
def transportEvents (now : Nat) (t : Transport) : List (Option Instr) :=
  [whenDue now t.stepTimer .trayStep, whenDue now t.stallTimer .stallPauseEnd, whenDue now t.camTimer.due .camTimeout,
    whenDue now t.seatTimer .seatTimeout, whenDue now t.focusAllowance.due .focusAllowanceSpent]

/-- The lamp controller's periods and timers; the readings of a period the part starts itself are free values. -/
def lampEvents (s : State) : List (Option Instr) :=
  [whenDue s.clock.now s.clock.lampPeriod (.lampPeriod (Config.lampSupply s.free) (Config.lampCurrent s.free)),
    whenDue s.clock.now s.lamp.carriageTimer .carriageTimeout, whenDue s.clock.now s.clock.usageTick .usageTick]

/-- The gap timer's event, by the state of the watch (R97, R98). -/
def gapEvent (p : Power) : Instr := if p.fanWatch = .failed then .fanRecoveryGap else .fanGapTimeout

/-- The cooling and power unit's period and timers. -/
def powerEvents (s : State) : List (Option Instr) :=
  [whenDue s.clock.now s.power.runupTimer .runupTimeout,
    whenDue s.clock.now s.clock.coolingPeriod (.coolingPeriod (Config.gateSensor s.free) (Config.houseSensor s.free)),
    whenDue s.clock.now s.power.spinTimer .fanSpinUpEnd, whenDue s.clock.now s.power.gapTimer (gapEvent s.power),
    whenDue s.clock.now s.power.recovery .fanRecovered]

/-- The timers of the deck unit and of the cue-track unit. -/
def deckEvents (s : State) : List (Option Instr) :=
  [whenDue s.clock.now s.deck.brakeTimer .brakeEnd, whenDue s.clock.now s.deck.endWatch .tapeEnd,
    whenDue s.clock.now s.deck.second.due .tapeSecond, whenDue s.clock.now s.clock.audioPeriod .audioPeriod,
    whenDue s.clock.now s.decoder.passTimer .decodePass, whenDue s.clock.now s.writer.cellTimer .cellBoundary]

/-- The line unit's timers. -/
def lineEvents (s : State) : List (Option Instr) :=
  let l := s.line
  let now := s.clock.now
  [whenDue now l.discharge .dischargeEnd, whenDue now l.detectPeriod (.detectPeriod (Config.lineVoltage s.free)),
    whenDue now l.settle .settlingEnd, whenDue now l.retry .retryTimerEnd, whenDue now l.quiet .quietTimerEnd,
    whenDue now l.noAnswer .noAnswerTimeout, whenDue now l.frameEnd .leadFrameSent,
    whenDue now l.window (.replyWindowTimeout false), whenDue now l.syncTimer .syncTimer,
    whenDue now l.pollPeriod .pollPeriod, whenDue now l.syncWatch .syncLost]

/-- The handset logic's timers. -/
def handsetEvents (now : Nat) (h : Handset) : List (Option Instr) :=
  [whenDue now h.errTimer .errTimeout, whenDue now h.entryTimer .entryTimeout, whenDue now h.holdTimer .autoRepeatHoldEnd]

/-- The event the part owes itself now: conditions first, then the expired timers block by block, in one fixed order
(assumption 1). -/
def dueCommand (s : State) : Option Instr :=
  firstDue (conditionEvents s ++ transportEvents s.clock.now s.transport ++ lampEvents s ++ powerEvents s ++ deckEvents s
    ++ lineEvents s ++ handsetEvents s.clock.now s.handset)

/-- One microsecond on the part's clocks (section 1.6). -/
def tickClock (c : Clock) : Clock :=
  { c with
    now := c.now + 1
    micros := c.micros + 1
    subMs := if 999 ≤ c.subMs then 0 else c.subMs + 1
    showClock := if 999 ≤ c.subMs then c.showClock + 1 else c.showClock }

/-- One microsecond passes; a cell in progress in RECORD reaches its middle 1 ms after its start (R132). -/
def idle (s : State) : State :=
  { s with
    clock := tickClock s.clock
    writer :=
      if s.deck.mode = .record ∧ s.writer.cellStart + 1000 ≤ s.clock.now + 1 then passMiddle s.writer else s.writer }

end Sys2Proof.Machine
end

