-- ==== Sys2Proof/Machine/DecoderOps.lean ====
section
/-! DEFINITION. The cue-track decoder: interval classes, acquisition, bits, characters, frames and their delivery (R116 to R128). -/

namespace Sys2Proof.Machine

/-! ### Intervals (R117, R118) -/

/-- Table 5-3. -/
inductive IntervalClass where
  | half
  | full
  | sync
  | bad
  deriving DecidableEq, Repr

/-- The class of an interval of `i` µs against the cell estimate `c` (R117). -/
def classify (c i : Nat) : IntervalClass :=
  if 4 * i < c then .bad
  else if 4 * i < 3 * c then .half
  else if 4 * i < 5 * c then .full
  else if 4 * i < 7 * c then .sync
  else .bad

/-- An interval of 600..1,400 µs is a half candidate (R118). -/
def halfCandidate (i : Nat) : Bool := decide (600 ≤ i) && decide (i ≤ 1400)

/-- HUNT takes an interval (R118); the eighth cell sets C and enters PREAMBLE. -/
def huntTake (i : Nat) (d : Decoder) : Decoder :=
  if halfCandidate i then
    match d.runHalf with
    | none => { d with runHalf := some i }
    | some h =>
      if 1500 ≤ h + i ∧ h + i ≤ 2500 then
        if 8 ≤ d.runCount + 1 then
          { d with state := .preamble, cell := (d.runSum + (h + i)) / 8, runCount := 0, runSum := 0, runHalf := none }
        else { d with runCount := d.runCount + 1, runSum := d.runSum + (h + i), runHalf := none }
      else { d with runCount := 0, runSum := 0, runHalf := some i }
  else { d with runCount := 0, runSum := 0, runHalf := none }

/-- PREAMBLE takes an interval (R119). -/
def preambleTake (i : Nat) (d : Decoder) : Decoder :=
  match classify d.cell i with
  | .half => d
  | .sync => { d with state := .sync }
  | .full | .bad => enterHunt d.reference d

/-- SYNC takes an interval (R120). -/
def syncTake (i : Nat) (d : Decoder) : Decoder :=
  match classify d.cell i with
  | .sync => { d with state := .data, half := none, bits := [], chars := [] }
  | .half | .full | .bad => enterHunt d.reference d

/-- TRAILER takes an interval (R125). -/
def trailerTake (i : Nat) (d : Decoder) : Decoder :=
  match classify d.cell i with
  | .full => d
  | .half => huntTake i (enterHunt d.reference d)
  | .sync | .bad => enterHunt d.reference d

/-! ### Frames (R126 to R128) -/

/-- A completed frame's characters, read as fields (R123). -/
structure CueFrame where
  kind : Nat
  count : Nat
  sequence : Nat
  data : List Byte
  deriving DecidableEq, Repr

/-- The fields of a frame's characters, header first (R123). -/
def frameOf (header : Byte) (data : List Byte) : CueFrame :=
  { kind := header.toNat / 16, count := header.toNat / 4 % 4, sequence := header.toNat % 4, data := data }

/-- The number that two data characters form, low byte first (R126). -/
def frameNumber : List Byte → Word
  | lo :: hi :: _ => wordOf lo hi
  | _ => 0

/-- Whether a frame agrees with Table 5-4 (R126). -/
def wellFormed (f : CueFrame) : Bool :=
  decide (dataCount f.kind = some f.count) && (decide (f.kind ≠ 3) || decide ((frameNumber f.data).toNat ≤ 4095))

/-- Whether a frame completed at `t` duplicates the last accepted one (R127). -/
def duplicates (f : CueFrame) (t : Clock32) : Option AcceptedFrame → Bool
  | none => false
  | some a =>
    decide (a.kind = f.kind) && decide (a.sequence = f.sequence) && decide (a.data = f.data)
      && decide ((t - a.time).toNat < 400000)

/-- The cue a frame kind is delivered as, none for a TIMEMARK (Table 5-4). -/
def cueOf (f : CueFrame) : Option CueKind :=
  match f.kind with
  | 1 => some .advance
  | 2 => some .reverse
  | 3 => some (.numbered (frameNumber f.data))
  | 5 => some .endShow
  | 6 => some .hold
  | _ => none

/-- The tape time becomes `sec` and the tape-second timer restarts (R111). -/
def timeMark (sec : Nat) (s : State) : State :=
  { s with deck := { s.deck with
      tapeTime := some sec, second := secondFor s.clock.now s.deck.mode { left := oneSecond, due := none } } }

/-- An accepted frame is delivered (R128). -/
def deliver (f : CueFrame) (s : State) : State :=
  match cueOf f with
  | some k => (postCue .tape k none s).1
  | none => timeMark (frameNumber f.data).toNat s

/-- A frame error's count (R124, R126). -/
def countFrameError (d : Decoder) : Decoder := { d with errors := satInc 255 d.errors }

/-- A frame completes at `t`: the decoder enters TRAILER; a malformed frame is counted, a duplicate dropped, any other accepted
and delivered (R123, R126, R127). -/
def completeFrame (f : CueFrame) (t : Clock32) (s : State) : State :=
  let d : Decoder := { s.decoder with state := .trailer, half := none, bits := [], chars := [] }
  if !wellFormed f then { s with decoder := countFrameError d }
  else if duplicates f t d.accepted then { s with decoder := d }
  else
    deliver f { s with decoder :=
      { d with accepted := some { kind := f.kind, sequence := f.sequence, data := f.data, time := t } } }

/-! ### Bits and characters (R121, R122) -/

/-- A frame error: the frame is dropped and counted, and the decoder hunts (R124). -/
def frameError (d : Decoder) : Decoder := enterHunt d.reference (countFrameError d)

/-- The byte that eight bits spell, least significant first. -/
def bitsByte : List Bool → Nat
  | [] => 0
  | b :: t => (if b then 1 else 0) + 2 * bitsByte t

/-- The data characters that a header announces (R122). -/
def headerCount (h : Byte) : Nat := h.toNat / 4 % 4

/-- Character assembly takes a bit; `t` is the timestamp of the edge that completed it (R122, R123). -/
def takeBit (b : Bool) (t : Clock32) (s : State) : State :=
  let d := s.decoder
  let bits := d.bits ++ [b]
  if d.bits = [] ∧ b then { s with decoder := frameError d }
  else if bits.length < 10 then { s with decoder := { d with bits := bits } }
  else if countOnes (bits.drop 1) % 2 = 0 then { s with decoder := frameError d }
  else
    let chars := d.chars ++ [toByte (bitsByte ((bits.drop 1).take 8))]
    match chars with
    | [] => s
    | h :: data =>
      if headerCount h ≤ data.length then
        completeFrame (frameOf h data) t { s with decoder := { d with bits := [], chars := chars } }
      else { s with decoder := { d with bits := [], chars := chars } }

/-- The cell estimate after a bit of measured cell `m` (R121). -/
def track (c m : Nat) : Nat := clamp 1500 2500 (stepEighth c m)

/-- A bit completes with measured cell `m`: the cell is tracked, and the bit goes to character assembly (R121). -/
def completeBit (b : Bool) (m : Nat) (t : Clock32) (s : State) : State :=
  takeBit b t { s with decoder := { s.decoder with half := none, cell := track s.decoder.cell m } }

/-- DATA takes an interval that ends at `t` (R121). -/
def dataTake (i : Nat) (t : Clock32) (s : State) : State :=
  match s.decoder.half, classify s.decoder.cell i with
  | none, .half => { s with decoder := { s.decoder with half := some i } }
  | none, .full => completeBit false i t s
  | some h, .half => completeBit true (h + i) t s
  | _, _ => { s with decoder := frameError s.decoder }

/-! ### Edges, and the staleness test (R116, R124) -/

/-- The decoder takes an interval of `i` µs that ends at `t`, by its state. -/
def takeInterval (i : Nat) (t : Clock32) (s : State) : State :=
  match s.decoder.state with
  | .off => s
  | .hunt => { s with decoder := huntTake i s.decoder }
  | .preamble => { s with decoder := preambleTake i s.decoder }
  | .sync => { s with decoder := syncTake i s.decoder }
  | .data => dataTake i t s
  | .trailer => { s with decoder := trailerTake i s.decoder }

/-- The decoder takes an edge (R116). -/
def takeEdge (t : Clock32) (s : State) : State :=
  let s' := { s with decoder := { s.decoder with reference := some t } }
  match s.decoder.reference with
  | none => s'
  | some r => takeInterval (t - r).toNat t s'

/-- The decoder takes every edge of the list, oldest first. -/
def takeEdges : List Clock32 → State → State
  | [], s => s
  | t :: ts, s => takeEdges ts (takeEdge t s)

/-- Whether the interval still to come can only be BAD (R124). -/
def stale (now : Clock32) (d : Decoder) : Bool :=
  match d.reference with
  | some r => decide (7 * d.cell ≤ 4 * (now - r).toNat)
  | none => false

/-- The staleness test at the end of a pass (R124). -/
def stalenessTest (now : Clock32) (d : Decoder) : Decoder :=
  if stale now d then
    match d.state with
    | .data => frameError d
    | .preamble | .sync | .trailer => enterHunt d.reference d
    | .off | .hunt => d
  else d

/-- A decode pass (R114). -/
def decodePass (s : State) : State :=
  let s1 := takeEdges s.decoder.ring { s with decoder := { s.decoder with ring := [] } }
  { s1 with decoder := stalenessTest s.clock.micros s1.decoder }

/-- An edge of the cue signal arrives in PLAY; at a full ring the oldest is lost, and the decoder hunts with no reference
(R114, R115). -/
def storeEdge (t : Clock32) (d : Decoder) : Decoder :=
  if d.ring.length < 256 then { d with ring := d.ring ++ [t] }
  else
    { enterHunt none d with
      ring := d.ring.drop (d.ring.length - 255) ++ [t], overflows := satInc 255 d.overflows }

end Sys2Proof.Machine
end

