-- ==== Sys2Proof/Machine/DeckUnit.lean ====
section
/-! DEFINITION. The commands of the deck unit and of the cue-track unit: braking, the reel, tape end, tape time, the audio ramp, the
cue edges with their decode pass, and the writer's cell boundary (R104 to R132). -/

namespace Sys2Proof.Machine

/-- The deck leaves BRAKING for the content of the pending slot (R104, R108). -/
def endBraking (s : State) : State :=
  let s1 := { s with deck := { s.deck with pending := none, brakeTimer := none } }
  match s.deck.pending with
  | some (.mode m) => setDeckMode m s1
  | some .locate => resolveLocate s1
  | none => setDeckMode .stop s1

/-- BRAKE_END (R104). -/
def execBrakeEnd (s : State) : Host.Outcome State Fault Refusal :=
  .next (if s.deck.mode = .braking then endBraking s else s)

/-- What a reel pulse adds to the tape counter in the deck's mode (R107). -/
def pulseStep (d : Deck) : Int :=
  match d.mode with
  | .play | .record | .fastFwd => 1
  | .rewind => -1
  | .braking => if d.brakeForward then 1 else -1
  | .stop => 0

/-- REEL_PULSE: the watch restarts in a moving mode, and the counter moves (R107, R109, R110). -/
def execReelPulse (s : State) : Host.Outcome State Fault Refusal :=
  .next (if s.deck.mode = .stop then s
  else
    let s1 := if s.deck.mode.moving then { s with deck := { s.deck with endWatch := startTimer twoSeconds s } } else s
    setCounter (clampCounter (s.deck.counter + pulseStep s.deck)) s1)

/-- Tape end outside REWIND: the deck brakes, TAPE_END is logged and flagged, the show is held (R110, R7). -/
def tapeEnded (s : State) : State :=
  holdAtTapeEnd (setFlag .tapeEnd (postGate .tapeEnd .deck noCue s.decoder.errors s.decoder.overflows
    (startBraking (.mode .stop) { s with deck := { s.deck with locate := none } })))

/-- TAPE_END (R110). -/
def execTapeEnd (s : State) : Host.Outcome State Fault Refusal :=
  .next (match s.deck.mode with
    | .rewind => setDeckMode .stop { s with deck := { s.deck with counter := 0, locate := none } }
    | .play => tapeEnded s
    | .record => tapeEnded s
    | .fastFwd => tapeEnded s
    | .stop => s
    | .braking => s)

/-- TAPE_SECOND (R111). -/
def execTapeSecond (s : State) : Host.Outcome State Fault Refusal :=
  .next (if s.deck.mode = .play ∨ s.deck.mode = .record then
    { s with deck := { s.deck with
        tapeTime := s.deck.tapeTime.map (satInc 65535), second := { left := oneSecond, due := startTimer oneSecond s } } }
  else s)

/-- The audio ramp advances one period (R112). -/
def audioStage (d : Deck) : Deck :=
  let r := d.ramp
  if !r.active then d
  else if r.k + 1 < r.n then
    { d with audio := lerp r.a0 r.a1 (r.k + 1) r.n, ramp := { r with k := r.k + 1 } }
  else { d with audio := r.a1, ramp := { r with k := r.k + 1, active := false } }

/-- AUDIO_PERIOD (R112). -/
def execAudioPeriod (s : State) : Host.Outcome State Fault Refusal :=
  .next { s with
    clock := { s.clock with audioPeriod := startTimer lampPeriodUs s }
    deck := audioStage s.deck }

/-- CUE_EDGE: stored with the microsecond counter while the deck is in PLAY (R114, R115). -/
def execCueEdge (s : State) : Host.Outcome State Fault Refusal :=
  .next (if s.deck.mode = .play then { s with decoder := storeEdge s.clock.micros s.decoder } else s)

/-- DECODE_PASS: made while the decoder is not OFF (R114). -/
def execDecodePass (s : State) : Host.Outcome State Fault Refusal :=
  .next (if s.decoder.state = .off then s
  else decodePass { s with decoder := { s.decoder with passTimer := startTimer passPeriodUs s } })

/-- CELL_BOUNDARY: in RECORD the cell in progress is complete and the next begins (R131, R132). -/
def execCellBoundary (s : State) : Host.Outcome State Fault Refusal :=
  .next (if s.deck.mode = .record then
    { s with writer := beginCell s.clock.now (completeCell (passMiddle s.writer)) }
  else s)

end Sys2Proof.Machine
end

