-- ==== Sys2Proof/Machine/Follower.lean ====
section
/-! DEFINITION. The follower's line commands, in LISTENING: its reply, the lead's time, broadcast cues, frame errors and the loss of
SYNC (R162 to R166, R212). -/

namespace Sys2Proof.Machine

/-- The line state of a follower (R144). -/
def listening (s : State) : Bool := decide (s.line.state = .listening)

/-- A bit of the fault summary. -/
def summaryBit (n : Nat) (b : Bool) : Nat := if b then 2 ^ n else 0

/-- The fault summary (Table 7-4). -/
def faultSummary (s : State) : Nat :=
  summaryBit 0 (decide (s.transport.state = .jammed)) + summaryBit 1 (decide (s.transport.state = .noTray))
    + summaryBit 2 (decide (s.lamp.state = .fault)) + summaryBit 3 (decide (s.power.band = .hot))
    + summaryBit 4 (decide (s.power.fanWatch = .failed)) + summaryBit 5 (decide (s.power.state ≠ .on))
    + summaryBit 6 (!s.line.syncHeld) + summaryBit 7 (decide (s.path.map.code ≠ 1))

/-- A follower's REPLY with its header and check byte (R163, R212). -/
def replyBytes (s : State) : List Byte :=
  withCheck [toByte (32 * ownAddress s.path.settings + 16), toByte s.engine.runState.code,
    slotByte s.transport.slotInGate, toByte (faultSummary s)]

/-- FOLLOWER_POLL: a POLL of the follower's own address is answered (R162, R163). -/
def execFollowerPoll (addr : BitVec 3) (s : State) : Host.Outcome State Fault Refusal :=
  .next (if listening s ∧ addr.toNat = ownAddress s.path.settings then
    { s with line := { s.line with lineOut := replyBytes s } }
  else s)

/-- SYNC_STEP for a step of `d` ms above 50 (R164). -/
def postStep (d : Int) (s : State) : State :=
  if 50 < d.natAbs then
    postGate .syncStep .line noCue (min 65535 d.natAbs) (if 0 < d then 1 else 0) s
  else s

/-- The show clock as it stood `us` microseconds ago: tF of R164. -/
def showClockAgo (us : Nat) (s : State) : Clock32 :=
  s.clock.showClock - BitVec.ofNat 32 ((us + 999 - s.clock.subMs) / 1000)

/-- A good SYNC of lead time `lead` whose break began at local time `here` (R164, R165). -/
def takeSync (lead here : Clock32) (s : State) : State :=
  let s1 := match s.line.offset with
    | some old => postStep ((lead - here) - old).toInt s
    | none => s
  { s1 with line := { s1.line with
      offset := some (lead - here), syncHeld := true, syncWatch := startTimer syncWatchUs s } }

/-- FOLLOWER_SYNC: the frame's break began `age` microseconds ago, at the part's own show clock of that moment (R164). -/
def execFollowerSync (lead : Clock32) (age : Nat) (s : State) : Host.Outcome State Fault Refusal :=
  .next (if listening s then takeSync lead (showClockAgo age s) s else s)

/-- A line frame error is counted (R162). -/
def countLineError (s : State) : State :=
  { s with line := { s.line with errors := satInc 255 s.line.errors } }

/-- The local scheduled start of a broadcast cue whose frame carries `t16` (R166). -/
def localStart (t16 : Word) (s : State) : Clock32 :=
  match s.line.syncHeld, s.line.offset with
  | true, some o =>
    s.clock.showClock + (t16 - (s.clock.showClock + o).setWidth 16).signExtend 32
  | _, _ => s.clock.showClock

/-- A LINK cue is posted with its scheduled start (R166). -/
def postLink (k : CueKind) (t16 : Word) (s : State) : State := (postCue .link k (some (localStart t16 s)) s).1

/-- A good broadcast frame becomes a cue; a CUE number above 4095 is a frame error (R162, R166). -/
def takeBroadcast (f : LinkFrame) (s : State) : State :=
  match f with
  | .cue n t => if 4095 < n.toNat then countLineError s else postLink (.numbered n) t s
  | .advance t => postLink .advance t s
  | .reverse t => postLink .reverse t s
  | .hold t => postLink .hold t s
  | .endShow t => postLink .endShow t s

/-- FOLLOWER_BROADCAST_CUE (R166). -/
def execFollowerBroadcastCue (f : LinkFrame) (s : State) : Host.Outcome State Fault Refusal :=
  .next (if listening s then takeBroadcast f s else s)

/-- LINK_STOP_FRAME (R166). -/
def execLinkStopFrame (s : State) : Host.Outcome State Fault Refusal :=
  .next (if listening s then requestStop s else s)

/-- LINK_RESUME_FRAME (R166). -/
def execLinkResumeFrame (s : State) : Host.Outcome State Fault Refusal :=
  .next (if listening s then (requestResume s).1 else s)

/-- LINE_FRAME_ERROR (R162). -/
def execLineFrameError (s : State) : Host.Outcome State Fault Refusal :=
  .next (if listening s then countLineError s else s)

/-- SYNC_LOST: three whole seconds have passed since the last good SYNC (R165). -/
def execSyncLost (s : State) : Host.Outcome State Fault Refusal :=
  .next (if s.line.syncWatch.isSome then
    let s1 := { s with line := { s.line with syncHeld := false, syncWatch := none } }
    if s.line.syncHeld then postGate .syncLost .line noCue 3 s.line.errors s1 else s1
  else s)

end Sys2Proof.Machine
end

