-- ==== Sys2Proof/Machine/Keys.lean ====
section
/-! DEFINITION. The handset logic's timers (R173, R174, R176). -/

namespace Sys2Proof.Machine

/-- ERR_TIMEOUT (R173). -/
def execErrTimeout (s : State) : Host.Outcome State Fault Refusal :=
  .next { s with handset := { s.handset with errTimer := none } }

/-- ENTRY_TIMEOUT: acts while the entry timer runs (R174). -/
def execEntryTimeout (s : State) : Host.Outcome State Fault Refusal :=
  .next (if s.handset.entryTimer.isSome then
    { s with handset := { s.handset with entry := [], entryTimer := none } }
  else s)

/-- AUTO_REPEAT_HOLD_END (R176). -/
def execAutoRepeatHoldEnd (s : State) : Host.Outcome State Fault Refusal :=
  .next (if s.handset.autoRepeat = .timing then
    let s1 := { s with handset := { s.handset with autoRepeat := .repeating, holdTimer := none } }
    if s.transport.state = .ready then postHandset .advance s1 else s1
  else s)

end Sys2Proof.Machine
end

