-- ==== Sys2Proof/Machine/LampUnit.lean ====
section
/-! DEFINITION. The lamp controller's commands: the lamp period with the events that can stand alone, the carriage's switches and
timeout, and the usage tick (R58, R59, R65 to R82). -/

namespace Sys2Proof.Machine

/-- The next lamp period comes 10 ms from now. -/
def restartLampPeriod (s : State) : State :=
  { s with clock := { s.clock with lampPeriod := startTimer lampPeriodUs s } }

/-- LAMP_PERIOD with supply reading `vs` and current reading `im`: the ramp stage, the lamp current, the duty, the usage counts, and
the duty and the reading handed to the power unit (R65, R67, R72, R73, R80, R87). The current is tested before R67's conditions: the
model's choice (assumption 36). -/
def execLampPeriod (vs im : Code10) (s : State) : Host.Outcome State Fault Refusal :=
  .next (runupReading vs.toNat (handDuty (countUsage (dutyStage vs.toNat (currentTest im.toNat (rampStage
    (restartLampPeriod s)))))))

/-- LAMP_RAMP_DONE: the ramp in progress stands one period before k = N, and reaches it (R65). -/
def execLampRampDone (s : State) : Host.Outcome State Fault Refusal :=
  .next (if s.lamp.ramp.active ∧ s.lamp.ramp.n ≤ s.lamp.ramp.k + 1 then rampDone s else s)

/-- OPEN_FILAMENT: the third open reading in succession (R73, R75). -/
def execOpenFilament (s : State) : Host.Outcome State Fault Refusal :=
  .next (if s.lamp.state = .lit ∧ 2 ≤ s.lamp.openCount then socketFails .openFilament s else s)

/-- LOW_SUPPLY: the fiftieth low reading in succession, `vs` (R71). -/
def execLowSupply (vs : Code10) (s : State) : Host.Outcome State Fault Refusal :=
  .next (if s.lamp.lowCount = 49 then
    postLowSupply vs.toNat { s with lamp := { s.lamp with lowCount := 50 } }
  else s)

/-- The end switches report `primary` and `spare`. -/
def setSwitches (primary spare : Bool) (s : State) : State :=
  { s with lamp := { s.lamp with endPrimary := primary, endSpare := spare } }

/-- The carriage stands at the active socket (R59). -/
def atActive (l : Lamp) : Bool := decide (carriagePosition l = stopOf l.active)

/-- END_SWITCH_CHANGE: the position follows the switches; it ends a swap at the active socket, starts one back to it from LIT, and
moves the active socket of a dark lamp (R58, R76, R79). In LIT with both switches made the position is UNKNOWN and a knock is read from
the active socket's switch alone: the swap starts when that switch opens. R58 and R79 leave that case open, and this is the model's
choice (assumption 40). -/
def execEndSwitchChange (primary spare : Bool) (s : State) : Host.Outcome State Fault Refusal :=
  .next (
    let s1 := setSwitches primary spare s
    match s.lamp.state with
    | .swapping => if atActive s1.lamp then carriageArrived s1 else s1
    | .lit => if endSwitch s1.lamp s.lamp.active then s1 else startSwap s.lamp.active false (leaveLit .swapping s1)
    | .off => followCarriage s1
    | .fault => followCarriage s1)

/-- CARRIAGE_ARRIVAL: the active socket's end switch alone reports made. It ends the swap in progress (R76); where none is, the carriage
timeout having been taken first, the report changes the carriage position alone (R59). -/
def execCarriageArrival (s : State) : Host.Outcome State Fault Refusal :=
  .next (
    let s1 := setSwitches (decide (s.lamp.active = .primary)) (decide (s.lamp.active = .spare)) s
    if s.lamp.state = .swapping then carriageArrived s1 else s1)

/-- CARRIAGE_TIMEOUT (R77): NO_LAMP with the socket that was not reached, CARRIAGE, and FAULT. -/
def execCarriageTimeout (s : State) : Host.Outcome State Fault Refusal :=
  .next (if s.lamp.state = .swapping then
    followCarriage (enterFault (setFlag .carriage (postNoLamp 3 s.lamp.active.code
      { s with lamp := { s.lamp with failureSwap := false } })))
  else s)

/-- The active socket burns one more second (R81). -/
def burnSecond (l : Lamp) : Lamp :=
  match l.active with
  | .primary => { l with usePrimary := usageSecond l.usePrimary }
  | .spare => { l with useSpare := usageSecond l.useSpare }

/-- USAGE_TICK: the tick uses the duty of the lamp period last completed, as it was handed over (R81, R72). -/
def execUsageTick (s : State) : Host.Outcome State Fault Refusal :=
  .next { s with
    clock := { s.clock with usageTick := startTimer oneSecond s }
    lamp := if 0 < s.power.handed then burnSecond s.lamp else s.lamp }

end Sys2Proof.Machine
end

