-- ==== Sys2Proof/Machine/LineUnit.lean ====
section
/-! DEFINITION. The lead's line commands: bringing the line up, frames, replies, and the timers (R146 to R160). -/

namespace Sys2Proof.Machine

/-- DISCHARGE_END (R146). -/
def execDischargeEnd (s : State) : Host.Outcome State Fault Refusal :=
  .next (if s.line.state = .off then enterDetect s else s)

/-- The line is detected below this voltage code (R146). -/
def detectThreshold : Nat := 320

/-- DETECT_PERIOD with the voltage reading `v`; the fourth detection in succession enters POWERING (R146). -/
def execDetectPeriod (v : Code10) (s : State) : Host.Outcome State Fault Refusal :=
  .next (if s.line.state = .detect then
    if v.toNat < detectThreshold then
      if 4 ≤ s.line.detectCount + 1 then enterPowering s
      else
        { s with line := { s.line with
            detectCount := s.line.detectCount + 1, detectPeriod := startTimer detectPeriodUs s } }
    else { s with line := { s.line with detectCount := 0, detectPeriod := startTimer detectPeriodUs s } }
  else s)

/-- LINE_DETECTED: the fourth detection in succession (R146). -/
def execLineDetected (s : State) : Host.Outcome State Fault Refusal :=
  .next (if s.line.state = .detect ∧ 3 ≤ s.line.detectCount then enterPowering s else s)

/-- SETTLING_END (R147). -/
def execSettlingEnd (s : State) : Host.Outcome State Fault Refusal :=
  .next (if s.line.state = .powering then startLine s else s)

/-- LINE_OVERCURRENT: acts in a powered state and is disregarded elsewhere (R148). -/
def execLineOvercurrent (s : State) : Host.Outcome State Fault Refusal :=
  .next (if s.line.state.powered then overcurrent s else s)

/-- RETRY_TIMER_END (R148). -/
def execRetryTimerEnd (s : State) : Host.Outcome State Fault Refusal :=
  .next (if s.line.state = .retryWait then enterPowering s else s)

/-- QUIET_TIMER_END (R148). -/
def execQuietTimerEnd (s : State) : Host.Outcome State Fault Refusal :=
  .next (if s.line.quiet.isSome then { s with line := { s.line with overcurrents := 0, quiet := none } } else s)

/-- NO_ANSWER_TIMEOUT (R150). -/
def execNoAnswerTimeout (s : State) : Host.Outcome State Fault Refusal :=
  .next (if s.line.state.powered ∧ s.line.noAnswer.isSome then noAnswer s else s)

/-- The reply window after a POLL, 12 bit times (R154). -/
def windowBits : Nat := 12

/-- The lead's frame is sent: after a POLL the reply window opens; a broadcast leaves its queue, a SYNC is no longer due, and the next
choice follows (R156, R157, R159). -/
def frameSent (s : State) : State :=
  match s.line.current with
  | some (.poll _) =>
    { s with line := { s.line with
        state := .awaiting, frameEnd := none, window := startTimer (windowBits * s.line.bit) s } }
  | some (.sync _) => enterIdle { s with line := { s.line with syncDue := false } }
  | some _ => enterIdle { s with line := { s.line with queue := s.line.queue.drop 1 } }
  | none => enterIdle s

/-- LEAD_FRAME_SENT (R159). -/
def execLeadFrameSent (s : State) : Host.Outcome State Fault Refusal :=
  .next (if s.line.state = .sending then frameSent s else s)

/-- REPLY_START (R154). -/
def execReplyStart (s : State) : Host.Outcome State Fault Refusal :=
  .next (if s.line.state = .awaiting then
    { s with line := { s.line with state := .receiving, window := none, badFrame := false } }
  else s)

/-- REPLY_RECEIVED with what was received; a frame with a framing error has been judged already while the lead waits for a quiet line
(R154). -/
def execReplyReceived (rx : LineRx) (s : State) : Host.Outcome State Fault Refusal :=
  .next (if s.line.state = .receiving ∧ !s.line.badFrame then
    match polledStation s.line with
    | some n => takeReply rx n s
    | none => enterIdle s
  else s)

/-- REPLY_WINDOW_TIMEOUT: the miss is counted; with a low level just begun the lead waits in IDLE for a quiet line (R154). -/
def execReplyWindowTimeout (low : Bool) (s : State) : Host.Outcome State Fault Refusal :=
  .next (if s.line.state = .awaiting then
    let s1 := match polledStation s.line with
      | some n => missedReply n s
      | none => s
    enterIdle { s1 with line := { s1.line with holdOff := low } }
  else s)

/-- RECEIVE_LINE_QUIET: the line has been high for 4b, and the lead makes its next choice (R154). -/
def execReceiveLineQuiet (s : State) : Host.Outcome State Fault Refusal :=
  .next (
    if s.line.state = .receiving ∧ s.line.badFrame then enterIdle s
    else if s.line.state = .idle ∧ s.line.holdOff then
      chooseFrame { s with line := { s.line with holdOff := false } }
    else s)

/-- SYNC_TIMER: a SYNC falls due while followers are configured (R157). -/
def execSyncTimer (s : State) : Host.Outcome State Fault Refusal :=
  .next (if s.line.syncTimer.isSome then
    chooseFrame { s with line := { s.line with
      syncTimer := none, syncDue := s.line.syncDue || decide (1 ≤ followerCount s.path.settings) } }
  else s)

/-- POLL_PERIOD (R158). -/
def execPollPeriod (s : State) : Host.Outcome State Fault Refusal :=
  .next (if s.line.pollPeriod.isSome then
    chooseFrame (fillPolls { s with line := { s.line with pollPeriod := startTimer pollPeriodUs s } })
  else s)

end Sys2Proof.Machine
end

