-- ==== Sys2Proof/Machine/PathOps.lean ====
section
/-! DEFINITION. The memory path: address classes, the snapshot and the record layouts, the treatment of each data byte, the map, the
settings in force, the live records, the control requests and the log's consumption (R181 to R200, R205, R206, R211). -/

namespace Sys2Proof.Machine

/-! ### Address classes (R183, Table 9-2) -/

/-- What a data byte's address names, with the offset in its range (R183). -/
inductive AddrClass where
  | logView (o : Nat)
  | status (o : Nat)
  | control (o : Nat)
  | spareWindow
  | header (o : Nat)
  | program (o : Nat)
  | settings (o : Nat)
  | live (o : Nat)
  | pass
  deriving DecidableEq, Repr

/-- Whether address `a` lies in the `n` addresses from `base`. -/
def within (a base n : Nat) : Bool := decide (base ≤ a) && decide (a < base + n)

/-- The class of an address outside the window and the header, under an adopted map. -/
def mappedClass (m : MapInfo) (a : Nat) : AddrClass :=
  if within a m.program (16 * m.count) then .program (a - m.program)
  else if within a m.settings 128 then .settings (a - m.settings)
  else if within a m.live 24 then .live (a - m.live)
  else .pass

/-- The class of address `a` in map state `m` (R183). -/
def addrClass (m : MapState) (a : Nat) : AddrClass :=
  if 0xFFA8 ≤ a then .spareWindow
  else if 0xFFA0 ≤ a then .control (a - 0xFFA0)
  else if 0xFF80 ≤ a then .status (a - 0xFF80)
  else if 0xFE00 ≤ a then .logView (a - 0xFE00)
  else if a < 12 then .header a
  else match m with
    | .mapped i => mappedClass i a
    | .unmapped => .pass
    | .mapFault => .pass

/-- WINDOW, the class of every address of 0xFE00..0xFFFF (R183). -/
def AddrClass.isWindow : AddrClass → Bool
  | .logView _ | .status _ | .control _ | .spareWindow => true
  | _ => false

/-! ### The record layouts and the snapshot (Tables 11-5, 11-6; R192, R206, R211) -/

/-- The 24 bytes of the live region with the part's own values (Table 11-5). -/
def liveBytes (s : State) : List Byte :=
  wordBytes (toWord s.engine.pointer) ++ [slotByte s.transport.slotInGate, toByte s.engine.runState.code]
    ++ wordBytes s.engine.lastCue ++ wordBytes (toWord (entriesInForce s))
    ++ clockBytes (BitVec.ofNat 32 s.lamp.usePrimary.minutes) ++ clockBytes (BitVec.ofNat 32 s.lamp.useSpare.minutes)
    ++ wordBytes (toWord s.lamp.usePrimary.starts) ++ wordBytes (toWord s.lamp.useSpare.starts)
    ++ clockBytes (BitVec.ofInt 32 s.deck.counter)

/-- The station presence field: the handset in bit 0, follower n in bit n (R160). -/
def presenceBits (l : Line) : Nat :=
  (if l.handset.present then 1 else 0) + (if l.follower1.present then 2 else 0) + (if l.follower2.present then 4 else 0)
    + (if l.follower3.present then 8 else 0)

/-- The 32 bytes of the status record (Tables 10-3 and 11-6). -/
def statusBytes (s : State) : List Byte :=
  [toByte s.engine.runState.code, toByte (16 * s.transport.state.code + s.transport.phase.code),
    toByte (gateCode s.transport.gate), slotByte s.transport.slotInGate, toByte s.lamp.state.code, toByte s.lamp.active.code]
    ++ wordBytes (toWord s.lamp.level) ++ wordBytes (toWord s.lamp.duty)
    ++ [toByte s.power.band.code, toByte s.power.state.code, toByte s.power.gateTemp, toByte s.power.houseTemp,
      toByte s.power.fanDuty, toByte s.deck.mode.code, toByte s.deck.audio, toByte s.decoder.state.code]
    ++ clockBytes (BitVec.ofInt 32 s.deck.counter)
    ++ [toByte (200000 / s.decoder.cell), toByte s.line.state.code, toByte (presenceBits s.line), toByte s.path.map.code]
    ++ wordBytes s.log.flags
    ++ [toByte s.path.declined, toByte s.path.partialLive, toByte s.log.ring.length, toByte s.log.lost]

/-- The snapshot of a READ (R192). -/
def snapshot (s : State) : Snapshot :=
  { live := liveBytes s, showLoaded := s.path.showLoaded, usageLoaded := s.path.usageLoaded, tapeLoaded := s.path.tapeLoaded,
    status := statusBytes s, code := s.path.reqCode, result := s.path.reqResult, log := s.log.ring.take 24 }

/-- Byte `o` of the log view: 0xFF beyond the entries held (R199). -/
def logViewByte (es : List LogEntry) (o : Nat) : Byte :=
  match es[o / 16]? with
  | some e => (entryBytes e)[o % 16]?.getD 0
  | none => 0xFF

/-- Byte `o` of the control record's read-back (R198). -/
def controlByte (p : Snapshot) (o : Nat) : Byte :=
  if o = 0 then p.code else if o = 1 then p.result else 0

/-! ### Live records (Table 9-5) -/

/-- The three live records. -/
inductive LiveRecord where
  | showPosition
  | lampUsage
  | tape
  deriving DecidableEq, Repr

/-- The record that byte `o` of the live region belongs to. -/
def recordAt (o : Nat) : LiveRecord :=
  if o < 8 then .showPosition else if o < 20 then .lampUsage else .tape

/-- A record's first byte. -/
def LiveRecord.first : LiveRecord → Nat
  | .showPosition => 0 | .lampUsage => 8 | .tape => 20

/-- A record's length. -/
def LiveRecord.length : LiveRecord → Nat
  | .showPosition => 8 | .lampUsage => 12 | .tape => 4

/-- Whether the record was LOADED in the snapshot. -/
def loadedIn (p : Snapshot) : LiveRecord → Bool
  | .showPosition => p.showLoaded
  | .lampUsage => p.usageLoaded
  | .tape => p.tapeLoaded

/-- The record becomes LOADED. -/
def setLoaded (r : LiveRecord) (s : State) : State :=
  match r with
  | .showPosition => { s with path := { s.path with showLoaded := true } }
  | .lampUsage => { s with path := { s.path with usageLoaded := true } }
  | .tape => { s with path := { s.path with tapeLoaded := true } }

/-! ### Data bytes (R190, R191, R193) -/

/-- The state with the transaction replaced. -/
def setTxn (t : Txn) (s : State) : State := { s with path := { s.path with txn := some t } }

/-- The byte `b` goes to the host. -/
def sendUp (b : Byte) (s : State) : State := { s with path := { s.path with upOut := some b } }

/-- The transaction with its address on to the next byte; 0xFFFF wraps to 0 (R181). -/
def nextAddr (t : Txn) : Txn := { t with addr := t.addr + 1 }

/-- A MIRROR byte passes and is captured (R184, R187, R188); a byte of another class is not. -/
def capture (c : AddrClass) (b : Byte) (t : Txn) (s : State) : State :=
  match c with
  | .header o =>
    setTxn { t with headerTouched := true } { s with path := { s.path with header := captureByte s.path.header o b } }
  | .program o => setTxn t { s with path := { s.path with program := captureByte s.path.program o b } }
  | .settings o =>
    setTxn { t with settingsSeen := assocSet t.settingsSeen o () }
      { s with path := { s.path with mirror := captureByte s.path.mirror o b } }
  | _ => setTxn t s

/-- A data byte of a READ, on which the memory answers `m` (R193). -/
def readByte (p : Snapshot) (t : Txn) (m : Byte) (s : State) : State :=
  let c := addrClass s.path.map t.addr.toNat
  let t' := nextAddr t
  match c with
  | .logView o =>
    sendUp (logViewByte p.log o) (setTxn { t' with logRead := assocSet t.logRead o () } s)
  | .status o => sendUp (p.status[o]?.getD 0) (setTxn t' s)
  | .control o => sendUp (controlByte p o) (setTxn t' s)
  | .spareWindow => sendUp 0 (setTxn t' s)
  | .live o =>
    if loadedIn p (recordAt o) then sendUp (p.live[o]?.getD 0) (setTxn t' s)
    else sendUp m (setTxn { t' with live := assocSet t.live o m } s)
  | .header _ | .program _ | .settings _ | .pass => sendUp m (capture c m t' s)

/-- Whether a byte of class `c` is declined: it lies in an armed entry, in the header outside STOPPED, in the log view or in the
spare window (R190). -/
def declines (s : State) : AddrClass → Bool
  | .program o => armed s (o / 16)
  | .header _ => decide (s.engine.runState ≠ .stopped)
  | .logView _ => true
  | .spareWindow => true
  | _ => false

/-- The downstream leg of a WRITE ends: the memory clears its latch and the path its shadow (R182, R190). -/
def endLeg (s : State) : State := { s with path := { s.path with legOpen := false, latch := false } }

/-- The byte goes to the memory. -/
def forward (b : Byte) (s : State) : State :=
  { s with path := { s.path with legBytes := s.path.legBytes ++ [b] } }

/-- A byte held back from the memory; in the status or control record it is held for the transaction's end (R190). Of two bytes
absorbed at one address the later is held: the model's choice (assumption 38). -/
def absorb (c : AddrClass) (b : Byte) (t : Txn) (s : State) : State :=
  match c with
  | .status _ | .control _ =>
    setTxn (nextAddr { t with absorbed := assocSet t.absorbed t.addr.toNat b }) s
  | _ => setTxn (nextAddr t) s

/-- A data byte of a WRITE begun with the latch shadow set (R190). -/
def writeByte (t : Txn) (b : Byte) (s : State) : State :=
  let c := addrClass s.path.map t.addr.toNat
  if !s.path.legOpen then absorb c b t s
  else if declines s c then
    absorb c b t (endLeg { s with path := { s.path with declined := satInc 255 s.path.declined } })
  else match c with
    | .status _ => absorb c b t (endLeg s)
    | .control _ => absorb c b t (endLeg s)
    | .live o => forward b (setTxn (nextAddr { t with live := assocSet t.live o b }) s)
    | _ => forward b (capture c b (nextAddr t) s)

/-- A data byte of a WRITE begun with the latch shadow clear (R191). -/
def writeUnlatched (t : Txn) (b : Byte) (s : State) : State :=
  let c := addrClass s.path.map t.addr.toNat
  if !s.path.legOpen then setTxn (nextAddr t) s
  else if c.isWindow then setTxn (nextAddr t) (endLeg s)
  else forward b (setTxn (nextAddr t) s)

/-! ### The start of a transaction (R181, R192) -/

/-- Whether the settings block is complete (R188). -/
def settingsComplete (s : State) : Bool := capturedAll s.path.mirror 0 128

/-- A transaction of kind `k` that starts now at address `a`. -/
def newTxn (k : TxnKind) (a : Word) (s : State) : Txn :=
  { kind := k, addr := a, headerTouched := false, wasComplete := settingsComplete s, settingsSeen := [], live := [],
    absorbed := [], logRead := [] }

/-- Whether a transaction passes both ways with no notice of its data: any but READ and WRITE. -/
def TxnKind.passes : TxnKind → Bool
  | .passing | .latching _ => true
  | .read _ | .write _ => false

/-- Whether a command byte can start a transaction: none of READ or WRITE is in progress (one that passes is taken to have ended,
assumption 23). -/
def linkFree (s : State) : Bool :=
  match s.path.txn with
  | none => true
  | some t => t.kind.passes

/-- The latch shadow after the end of the transaction in progress, one that passes: SET LATCH and CLEAR LATCH act here (R182). -/
def latchAfter (s : State) : Bool :=
  match s.path.txn with
  | some t =>
    match t.kind with
    | .latching b => b
    | _ => s.path.latch
  | none => s.path.latch

/-- What the transaction in progress, one that passes, does at its end (R182). -/
def endPassed (s : State) : State := { s with path := { s.path with latch := latchAfter s } }

/-- A transaction opens: its first bytes `bs` go to the memory. -/
def openTxn (t : Option Txn) (bs : List Byte) (s : State) : State :=
  { s with path := { s.path with txn := t, legOpen := t.isSome, legBytes := bs, upOut := none } }

/-- A command of kind `k` passed to the memory, its data passing with no notice taken. -/
def passCommand (k : TxnKind) (b : Byte) (s : State) : State := openTxn (some (newTxn k 0 s)) [b] s

/-- The two bytes of an address, high byte first (R181). -/
def addressBytes (a : Word) : List Byte := [(a >>> 8).setWidth 8, a.setWidth 8]

/-- A READ and its address phase; the snapshot is taken as the second address byte completes (R181, R192). -/
def startRead (a : AddrPhase) (s : State) : State :=
  match a with
  | .absent => openTxn none [0x03] s
  | .high hi => openTxn none [0x03, hi] s
  | .full addr => openTxn (some (newTxn (.read (snapshot s)) addr s)) (0x03 :: addressBytes addr) s

/-- A WRITE and its address phase: the latch shadow is sampled; an incomplete address phase ends the transaction, which clears the
shadow (R181, R182). -/
def startWrite (a : AddrPhase) (s : State) : State :=
  match a with
  | .absent => endLeg (openTxn none [0x02] s)
  | .high hi => endLeg (openTxn none [0x02, hi] s)
  | .full addr => openTxn (some (newTxn (.write s.path.latch) addr s)) (0x02 :: addressBytes addr) s

/-- A transaction whose first byte is `b` and that has no address (Table 9-1); a READ or WRITE is cut short by the select. -/
def startByte (b : Byte) (s : State) : State :=
  match linkCommand b with
  | .read => startRead .absent s
  | .write => startWrite .absent s
  | .setLatch => passCommand (.latching true) b s
  | .clearLatch => passCommand (.latching false) b s
  | .readStatus => passCommand .passing b s
  | .foreign => passCommand .passing b s

/-- A new transaction, once the link is free and the one that passed has ended. -/
def startTxn (f : State → State) (s : State) : State := if linkFree s then f (endPassed s) else s

/-! ### The header and the map (R184 to R186) -/

/-- A two-byte field of the captured header. -/
def headerField (b : Bytes) (o : Nat) : Nat := (wordOf (byteAt b o) (byteAt b (o + 1))).toNat

/-- The map that a captured header gives (Table 11-1). -/
def headerMap (b : Bytes) : MapInfo :=
  { count := headerField b 4, program := headerField b 6, settings := headerField b 8, live := headerField b 10 }

/-- A range of `n` addresses from `base` is empty or lies within 0x000C..0xFDFF (R185). -/
def rangeFits (base n : Nat) : Bool :=
  decide (n = 0) || (decide (0x000C ≤ base) && decide (base + n - 1 ≤ 0xFDFF))

/-- Two ranges, one of them empty or with no address in common (R185). -/
def disjoint (a n b m : Nat) : Bool :=
  decide (n = 0) || decide (m = 0) || decide (a + n ≤ b) || decide (b + m ≤ a)

/-- The first check of R185 the captured header fails. -/
def headerFailure (b : Bytes) : Option Nat :=
  let m := headerMap b
  if byteAt b 0 ≠ 0x4A ∨ byteAt b 1 ≠ 0x4B then some 1
  else if headerField b 2 ≠ 1 then some 2
  else if 512 < m.count then some 3
  else if !(rangeFits m.program (16 * m.count) && rangeFits m.settings 128 && rangeFits m.live 24) then some 4
  else if !(disjoint m.program (16 * m.count) m.settings 128 && disjoint m.program (16 * m.count) m.live 24
      && disjoint m.settings 128 m.live 24) then some 5
  else none

/-- The map state becomes `m`: the mirrors' capture flags are cleared and the pointer limited (R186, R3). -/
def changeMap (m : MapState) (s : State) : State :=
  limitPointer { s with path := { s.path with
    map := m, program := clearMarks s.path.program, mirror := clearMarks s.path.mirror } }

/-- A map is adopted (R186). -/
def adoptMap (m : MapInfo) (s : State) : State :=
  postGate .map .path noCue 1 m.count (changeMap (.mapped m) s)

/-- MAP_FAULT is entered with failure code `code` (R186). -/
def enterMapFault (code : Nat) (s : State) : State :=
  setFlag .mapFault (postGate .map .path noCue 2 code (changeMap .mapFault s))

/-- The map decision on the captured header (R186). -/
def decideMap (s : State) : State :=
  match headerFailure s.path.header.bytes with
  | none =>
    let m := headerMap s.path.header.bytes
    if s.path.map = .mapped m then s else adoptMap m s
  | some code => if s.path.map = .mapFault then s else enterMapFault code s

/-- Header validation at a transaction's end (R184). -/
def validateHeader (t : Txn) (s : State) : State :=
  if t.headerTouched && capturedAll s.path.header 0 12 then decideMap s else s

/-! ### The settings in force (R188) -/

/-- The bytes of `m` at the offsets listed replace those of `b`. -/
def replaceBytes (m : Bytes) : Assoc Unit → Bytes → Bytes
  | [], b => b
  | (o, _) :: t, b => replaceBytes m t (setByte b o (byteAt m o))

/-- The settings in force after a transaction (R188). -/
def newSettings (t : Txn) (s : State) : Bytes :=
  if t.wasComplete then replaceBytes s.path.mirror.bytes t.settingsSeen s.path.settings
  else if settingsComplete s then s.path.mirror.bytes
  else s.path.settings

/-- The owners act on the fields whose values in force changed from `old` (R29, R144, R161). -/
def settingsActions (old : Bytes) (s : State) : State :=
  let b := s.path.settings
  let s1 := if traySize b ≠ traySize old then sizeChange s else s
  let s2 := if lineRole b ≠ s1.line.role then roleChange (lineRole b) s1 else s1
  if followerCount b ≠ followerCount old then followerCountChange (followerCount old) s2 else s2

/-- The settings in force are brought up to date (R188). -/
def updateSettings (t : Txn) (s : State) : State :=
  settingsActions s.path.settings { s with path := { s.path with settings := newSettings t s } }

/-! ### Loading and applying the live records (R194 to R196) -/

/-- A noted live byte. -/
def liveAt (m : Assoc Byte) (o : Nat) : Byte := (assocGet m o).getD 0

/-- A two-byte field of the noted live bytes. -/
def live16 (m : Assoc Byte) (o : Nat) : Nat := (wordOf (liveAt m o) (liveAt m (o + 1))).toNat

/-- A four-byte field of the noted live bytes. -/
def live32 (m : Assoc Byte) (o : Nat) : Clock32 :=
  clockOf (liveAt m o) (liveAt m (o + 1)) (liveAt m (o + 2)) (liveAt m (o + 3))

/-- The pointer takes a carried value, limited to the entries in force (R3). -/
def setPointer (p : Nat) (s : State) : State :=
  { s with engine := { s.engine with pointer := min p (entriesInForce s) } }

/-- The lamp usage record sets both sockets' minutes and starts (R81). -/
def setUsage (m : Assoc Byte) (s : State) : State :=
  { s with lamp := { s.lamp with
      usePrimary := { s.lamp.usePrimary with minutes := (live32 m 8).toNat, starts := live16 m 16 }
      useSpare := { s.lamp.useSpare with minutes := (live32 m 12).toNat, starts := live16 m 18 } } }

/-- The run-state request that a written show position makes (R196). -/
def writtenRunState (v : Nat) (s : State) : State :=
  if v = s.engine.runState.code then s
  else match v with
    | 0 => requestStop s
    | 1 => if s.engine.runState = .stopped then (requestStart s).1 else (requestResume s).1
    | 2 => (requestHold s).1
    | 3 => (requestLearn s).1
    | _ => s

/-- A record is loaded from a complete read (Table 9-6). -/
def loadRecord (m : Assoc Byte) (r : LiveRecord) (s : State) : State :=
  match r with
  | .showPosition => setPointer (live16 m 0) s
  | .lampUsage => setUsage m s
  | .tape => setCounter (live32 m 20).toInt s

/-- A complete write of a record is applied (Table 9-6, R196). -/
def applyRecord (m : Assoc Byte) (r : LiveRecord) (s : State) : State :=
  match r with
  | .showPosition =>
    let s1 :=
      if s.engine.runState = .stopped ∨ s.engine.runState = .held then setPointer (live16 m 0) s else s
    writtenRunState (liveAt m 3).toNat s1
  | .lampUsage => setUsage m s
  | .tape => setCounter (live32 m 20).toInt s

/-- One record at the end of a READ (R194). -/
def finishLoad (m : Assoc Byte) (r : LiveRecord) (s : State) : State :=
  if assocHasAll m r.first r.length then setLoaded r (loadRecord m r s) else s

/-- One record at the end of a WRITE (R195). -/
def finishApply (m : Assoc Byte) (r : LiveRecord) (s : State) : State :=
  if assocHasAll m r.first r.length then setLoaded r (applyRecord m r s)
  else if assocHasAny m r.first r.length then
    { s with path := { s.path with partialLive := satInc 255 s.path.partialLive } }
  else s

/-! ### Acknowledgement and control requests (R197, R198) -/

/-- The fault-flag field written with both its bytes is an acknowledgement (R197). -/
def finishAcknowledge (t : Txn) (s : State) : State :=
  match assocGet t.absorbed 0xFF9A, assocGet t.absorbed 0xFF9B with
  | some lo, some hi => acknowledge (wordOf lo hi) s
  | _, _ => s

/-- The results of a control request (R198). -/
inductive Result where
  | taken
  | refusedState
  | refusedArgument
  | refusedFull
  | unknown
  deriving DecidableEq, Repr

/-- R198. -/
def Result.code : Result → Nat
  | .taken => 1 | .refusedState => 2 | .refusedArgument => 3 | .refusedFull => 4 | .unknown => 5

/-- A request that is taken, or refused for the state. -/
def byState (p : State × Bool) : State × Result := (p.1, if p.2 then .taken else .refusedState)

/-- A CONTROL cue: queued or discarded is TAKEN (Table 9-7). -/
def controlCue (k : CueKind) (s : State) : State × Result :=
  let p := postCue .control k none s
  (p.1, if p.2 = .refused then .refusedFull else .taken)

/-- Whether the host may wind the deck in this run state (R105). -/
def mayWind : RunState → Bool
  | .stopped | .held => true
  | .running | .learning => false

/-- The DECK request (R105, R108). -/
def controlDeck (a : Nat) (target : Int) (s : State) : State × Result :=
  if 4 < a then (s, .refusedArgument)
  else if s.engine.runState = .learning then (s, .refusedState)
  else match a with
    | 0 => (deckRequest .stop s, .taken)
    | 1 => (deckRequest .play s, .taken)
    | 2 => if mayWind s.engine.runState then (deckRequest .fastFwd s, .taken) else (s, .refusedState)
    | 3 => if mayWind s.engine.runState then (deckRequest .rewind s, .taken) else (s, .refusedState)
    | _ => if mayWind s.engine.runState then (deckLocate target s, .taken) else (s, .refusedState)

/-- The control result of a writer's answer (Table 6-4). -/
def placementResult : Option Refuse → Result
  | none => .taken
  | some .notRecording => .refusedState
  | some .range => .refusedArgument
  | some .overlap => .refusedFull
  | some .noRoom => .refusedFull

/-- The WRITE_CUE request (R139). -/
def controlWriteCue (a : Nat) (b c : Word) (s : State) : State × Result :=
  if s.deck.mode ≠ .record then (s, .refusedState)
  else if a = 0 ∨ 6 < a ∨ (a = 3 ∧ 4095 < b.toNat) then (s, .refusedArgument)
  else
    let p := placeFrame .control a b (if c = 0 then none else some c.toNat) s
    (p.1, placementResult p.2)

/-- A control request with its result (Table 9-7). -/
def controlRequest (code a : Nat) (b c : Word) (s : State) : State × Result :=
  match code with
  | 1 => byState (requestStart s)
  | 2 => byState (requestHold s)
  | 3 => byState (requestResume s)
  | 4 => (requestStop s, .taken)
  | 5 => byState (requestLearn s)
  | 6 => controlCue .advance s
  | 7 => controlCue .reverse s
  | 8 => if traySize s.path.settings < a then (s, .refusedArgument) else controlCue (.goto a) s
  | 9 => byState (lampOn s)
  | 10 => (lampOff s, .taken)
  | 11 => if a ≤ 1 then ((lampReplaced a s).1, .taken) else (s, .refusedArgument)
  | 12 => controlDeck a (c ++ b).toInt s
  | 13 => controlWriteCue a b c s
  | 14 => byState (clearJam s)
  | 15 => byState (powerOnRequest 2 s)
  | 16 => byState (powerOffRequest 2 s)
  | 17 => byState (lineReset s)
  | _ => (s, .unknown)

/-- Byte `o` of the control record as absorbed. -/
def requestByte (t : Txn) (o : Nat) : Byte := (assocGet t.absorbed (0xFFA0 + o)).getD 0

/-- The control record written with all its bytes makes one request, whose code and result become the read-back (R198). -/
def finishRequest (t : Txn) (s : State) : State :=
  if assocHasAll t.absorbed 0xFFA0 8 then
    let code := requestByte t 0
    let r := controlRequest code.toNat (requestByte t 1).toNat (wordOf (requestByte t 2) (requestByte t 3))
      (wordOf (requestByte t 4) (requestByte t 5)) s
    { r.1 with path := { r.1.path with reqCode := code, reqResult := toByte r.2.code } }
  else s

/-! ### Consumption of the log view (R199, R205) -/

/-- How many entries from the `k`-th on were read in full, of `n`. -/
def fullyRead (m : Assoc Unit) (k : Nat) : Nat → Nat
  | 0 => 0
  | n + 1 => if assocHasAll m (16 * k) 16 then 1 + fullyRead m (k + 1) n else 0

/-- Removes the oldest entries while their sequence numbers lie in the run handed over (R205). -/
def consume (run : List Word) : List LogEntry → List LogEntry
  | [] => []
  | e :: es => if run.contains e.sequence then consume run es else e :: es

/-- The log view consumption at the end of a READ (R199). -/
def finishConsume (p : Snapshot) (t : Txn) (s : State) : State :=
  let run := (p.log.take (fullyRead t.logRead 0 p.log.length)).map LogEntry.sequence
  { s with log := { s.log with ring := consume run s.log.ring } }

/-! ### The end of a transaction (R200) -/

/-- Steps 2 to 7 at the end of a READ. -/
def finishRead (p : Snapshot) (t : Txn) (s : State) : State :=
  let s1 := updateSettings t (validateHeader t s)
  let s2 := finishLoad t.live .tape (finishLoad t.live .lampUsage (finishLoad t.live .showPosition s1))
  finishConsume p t s2

/-- Steps 2 to 6 at the end of a WRITE begun with the latch shadow set. -/
def finishWrite (t : Txn) (s : State) : State :=
  let s1 := updateSettings t (validateHeader t s)
  let s2 := finishApply t.live .tape (finishApply t.live .lampUsage (finishApply t.live .showPosition s1))
  finishRequest t (finishAcknowledge t s2)

/-- The upstream select rises: the transaction is over and the downstream select rises with it. -/
def closeTxn (s : State) : State := { s with path := { s.path with txn := none, legOpen := false } }

end Sys2Proof.Machine
end

