-- ==== Sys2Proof/Machine/PathUnit.lean ====
section
/-! DEFINITION. The memory path's commands: the transactions of the memory link, byte by byte (R181, R182, R190 to R193, R200). -/

namespace Sys2Proof.Machine

/-- READ: the command and what came of its address phase (R181, R192). -/
def execRead (a : AddrPhase) (s : State) : Host.Outcome State Fault Refusal := .next (startTxn (startRead a) s)

/-- READ_DATA_BYTE, on which the memory answers `m` (R193). -/
def execReadDataByte (m : Byte) (s : State) : Host.Outcome State Fault Refusal :=
  .next (match s.path.txn with
    | none => s
    | some t =>
      match t.kind with
      | .passing => sendUp m s
      | .latching _ => sendUp m s
      | .read p => readByte p t m s
      | .write _ => s)

/-- WRITE: the command and what came of its address phase (R181, R182). -/
def execWrite (a : AddrPhase) (s : State) : Host.Outcome State Fault Refusal := .next (startTxn (startWrite a) s)

/-- WRITE_DATA_BYTE `b` (R190, R191). -/
def execWriteDataByte (b : Byte) (s : State) : Host.Outcome State Fault Refusal :=
  .next (match s.path.txn with
    | none => s
    | some t =>
      match t.kind with
      | .passing => if s.path.legOpen then forward b s else s
      | .latching _ => if s.path.legOpen then forward b s else s
      | .read _ => s
      | .write true => writeByte t b s
      | .write false => writeUnlatched t b s)

/-- SET_LATCH: the command passes; the latch shadow is set at the transaction's end (R182). -/
def execSetLatch (s : State) : Host.Outcome State Fault Refusal :=
  .next (startTxn (passCommand (.latching true) 0x06) s)

/-- CLEAR_LATCH: the command passes; the latch shadow is cleared at the transaction's end (R182). -/
def execClearLatch (s : State) : Host.Outcome State Fault Refusal :=
  .next (startTxn (passCommand (.latching false) 0x04) s)

/-- READ_STATUS (R181). -/
def execReadStatus (s : State) : Host.Outcome State Fault Refusal := .next (startTxn (passCommand .passing 0x05) s)

/-- FOREIGN_TRANSACTION with the command byte `b`; a byte of Table 9-1 makes it that command (R181). -/
def execForeignTransaction (b : Byte) (s : State) : Host.Outcome State Fault Refusal := .next (startTxn (startByte b) s)

/-- TRANSACTION_END: the steps of R200. -/
def execTransactionEnd (s : State) : Host.Outcome State Fault Refusal :=
  .next (match s.path.txn with
    | none => s
    | some t =>
      match t.kind with
      | .passing => closeTxn s
      | .latching _ => closeTxn (endPassed s)
      | .read p => finishRead p t (closeTxn s)
      | .write true => finishWrite t (endLeg (closeTxn s))
      | .write false => endLeg (closeTxn s))

end Sys2Proof.Machine
end

