-- ==== Sys2Proof/Machine/PowerUnit.lean ====
section
/-! DEFINITION. The cooling and power unit's commands: the power key, run-up, shutdown, the cooling period and the fan watch
(R86 to R100). -/

namespace Sys2Proof.Machine

/-- POWER_KEY (R86). -/
def execPowerKey (s : State) : Host.Outcome State Fault Refusal := .next (powerKeyPressed s)

/-- RUNUP_SUPPLY_GOOD: the tenth good reading in succession (R87, R88). -/
def execRunupSupplyGood (s : State) : Host.Outcome State Fault Refusal :=
  .next (if s.power.state = .runup ∧ 9 ≤ s.power.runupCount then
    supplyGood { s with power := { s.power with runupCount := s.power.runupCount + 1 } }
  else s)

/-- RUNUP_TIMEOUT (R87): the run-up is given up, and SUPPLY is posted and flagged with the last reading handed over. -/
def execRunupTimeout (s : State) : Host.Outcome State Fault Refusal :=
  .next (if s.power.state = .runup then
    setFlag .supply (postGate .supply .cooling noCue s.power.runupVs (nominalSupply s.path.settings) (leaveRunup 4 s))
  else s)

/-- SHUTDOWN_COMPLETE (R91). -/
def execShutdownComplete (s : State) : Host.Outcome State Fault Refusal := .next (testShutdown s)

/-! ### The cooling period (R92 to R96, R100) -/

/-- A sensor code as a temperature in °C (R92). -/
def celsius (code : Nat) : Nat := code * 250 / 1023

/-- The band from the settings, the previous band and the two temperatures (R93). -/
def bandOf (b : Bytes) (old : Band) (gate house : Nat) : Band :=
  if gateHot b ≤ gate ∨ houseHot b ≤ house then .hot
  else if old = .hot ∧ (gateHot b - 3 < gate ∨ houseHot b - 3 < house) then .hot
  else if gateWarm b ≤ gate then .warm
  else if old ≠ .normal ∧ gateWarm b - 3 < gate then .warm
  else .normal

/-- The temperatures are read and the band decided; entering HOT is logged, flagged and reported (R92 to R94). -/
def decideBand (gate house : Nat) (s : State) : State :=
  let band := bandOf s.path.settings s.power.band gate house
  let s1 := { s with power := { s.power with gateTemp := gate, houseTemp := house, band := band } }
  if band = .hot ∧ s.power.band ≠ .hot then
    holdShow (setFlag .thermalHot (postGate .thermal .cooling noCue gate house s1))
  else s1

/-- The smoothed power moves an eighth of the way to the duty of the lamp period last completed (R95). -/
def smoothPower (s : State) : State :=
  { s with power := { s.power with smoothed := stepEighth s.power.smoothed s.power.handed } }

/-- The cooldown test (R100): paid, it is cleared, and R91 tests for STANDBY. -/
def testCooldown (s : State) : State :=
  if !s.power.owed then s
  else
    let time := min 2550 (s.power.cooldown + 1)
    if s.power.houseTemp < houseCool s.path.settings ∧ 10 * cooldownMin s.path.settings ≤ time then
      testShutdown { s with power := { s.power with owed := false, cooldown := 0 } }
    else { s with power := { s.power with cooldown := time } }

/-- The fan duty of a cooling period (R96). -/
def fanDutyOf (b : Bytes) (p : Power) : Nat :=
  if p.state = .standby then 0
  else if p.state = .runup ∨ p.band ≠ .normal ∨ p.owed then fanMax b
  else fanMin b + (fanMax b - fanMin b) * p.smoothed / 4095

/-- The fan duty is computed and applied (R96, R97). -/
def applyFan (s : State) : State := setFan (fanDutyOf s.path.settings s.power) s

/-- COOLING_PERIOD with the two sensor codes, its work in R92's order. -/
def execCoolingPeriod (gate house : Code10) (s : State) : Host.Outcome State Fault Refusal :=
  .next (applyFan (testCooldown (smoothPower (decideBand (celsius gate.toNat) (celsius house.toNat)
    { s with clock := { s.clock with coolingPeriod := startTimer coolingPeriodUs s } }))))

/-! ### The fan watch (R97, R98) -/

/-- The watch enters WATCHING with its gap timer started afresh. -/
def enterWatching (s : State) : State :=
  { s with power := { s.power with
      fanWatch := .watching, spinTimer := none, gapTimer := startTimer fanGapUs s, recovery := none } }

/-- FAN_SPIN_UP_END (R97). -/
def execFanSpinUpEnd (s : State) : Host.Outcome State Fault Refusal :=
  .next (if s.power.fanWatch = .spinUp then enterWatching s else s)

/-- FAN_TACH_EDGE: the gap timer restarts in WATCHING; in FAILED with the fan driven, the edge starts or extends a recovery run, which
a gap of more than 250 ms would end (R97, R98). -/
def execFanTachEdge (s : State) : Host.Outcome State Fault Refusal :=
  .next (match s.power.fanWatch with
    | .watching => { s with power := { s.power with gapTimer := startTimer fanGapUs s } }
    | .failed =>
      if s.power.fanDuty = 0 then s
      else
        { s with power := { s.power with
            gapTimer := startTimer (fanGapUs + 1) s
            recovery := if s.power.recovery.isSome then s.power.recovery else startTimer oneSecond s } }
    | .off => s
    | .spinUp => s)

/-- FAN_GAP_TIMEOUT (R97). -/
def execFanGapTimeout (s : State) : Host.Outcome State Fault Refusal :=
  .next (if s.power.fanWatch = .watching then
    setFlag .fanFailed (postGate .fanFailed .cooling noCue s.power.fanDuty 0
      { s with power := { s.power with fanWatch := .failed, gapTimer := none, recovery := none } })
  else s)

/-- FAN_RECOVERY_GAP (R98). -/
def execFanRecoveryGap (s : State) : Host.Outcome State Fault Refusal :=
  .next (if s.power.fanWatch = .failed ∧ s.power.recovery.isSome then
    { s with power := { s.power with recovery := none, gapTimer := none } }
  else s)

/-- FAN_RECOVERED (R98). -/
def execFanRecovered (s : State) : Host.Outcome State Fault Refusal :=
  .next (if s.power.fanWatch = .failed ∧ s.power.recovery.isSome then enterWatching s else s)

end Sys2Proof.Machine
end

