-- ==== Sys2Proof/Machine/Reset.lean ====
section
/-! DEFINITION. The two resets, block by block (R28, R57, R83, R84, R101, R102, R129, R143, R167, R180, R201, R210). -/

namespace Sys2Proof.Machine

/-- A transaction in progress at a reset is foreign from then on (R201). -/
def foreignTxn (t : Option Txn) : Option Txn :=
  t.map (fun x => { x with kind := .passing })

/-- The memory path after either reset: what a transaction in progress goes on needing is kept (R201). -/
def pathAfter (old : Path) (usageLoaded tapeLoaded : Bool) : Path :=
  { resetPath with
    usageLoaded := usageLoaded, tapeLoaded := tapeLoaded, txn := foreignTxn old.txn, legOpen := old.legOpen,
    legBytes := old.legBytes, upOut := old.upOut }

/-- Once every block has its state after the reset, each flag whose condition holds is set (R210). -/
def flagsAfter (s : State) : State := { s with log := { s.log with flags := persistWord s allFlags } }

/-- POWER_ON_RESET: every block takes its power-on state. The commands that wait and the model's count of free readings stay. -/
def execPowerOnReset (r : ResetSense) (s : State) : Host.Outcome State Fault Refusal :=
  .next (flagsAfter { resetState r with
    pending := s.pending, free := s.free, path := pathAfter s.path false false })

/-- What a socket keeps over a reset input: all but the seconds accumulator (R84). -/
def keptUsage (u : Usage) : Usage := { u with seconds := 0 }

/-- The lamp controller after reset input (R84). -/
def lampAfterInput (r : ResetSense) (l : Lamp) : Lamp :=
  { resetLamp r with
    primary := l.primary, spare := l.spare, usePrimary := keptUsage l.usePrimary, useSpare := keptUsage l.useSpare }

/-- The lamp controller's report before it is reset: cooldown is owed when the lamp was not OFF (R99, R102). -/
def reportAtReset (s : State) : State :=
  if s.lamp.state = .off then s
  else setFan (fanMax s.path.settings) { s with power := { s.power with owed := true, cooldown := 0 } }

/-- The cooling and power unit after reset input, all but a change of its state kept; a run-up begins afresh (R102). -/
def powerAfterInput (s : State) : Power :=
  let p := (reportAtReset s).power
  if p.state = .runup then { p with runupCount := 0, runupTimer := startTimer twoSeconds s } else p

/-- Every block but the power unit takes its reset-input state. -/
def blocksAfterInput (r : ResetSense) (s : State) : State :=
  { resetState r with
    pending := s.pending, free := s.free, clock := resetClock s.clock.now s.clock.micros, lamp := lampAfterInput r s.lamp,
    power := powerAfterInput s, deck := { resetDeck with counter := s.deck.counter }, line := resetLine s.clock.now,
    path := pathAfter s.path s.path.usageLoaded s.path.tapeLoaded }

/-- RESET_INPUT. Cooldown that falls due in STANDBY takes the unit to SHUTDOWN, logged in the emptied log; a SHUTDOWN whose conditions
all hold after the reset is left (R91, R99, R102). -/
def execResetInput (r : ResetSense) (s : State) : Host.Outcome State Fault Refusal :=
  .next (
    let s1 := blocksAfterInput r s
    let s2 := if s1.power.state = .standby ∧ s1.power.owed then setPower .shutdown 6 s1 else testShutdown s1
    flagsAfter s2)

end Sys2Proof.Machine
end

