-- ==== Sys2Proof/Machine/Dispatch.lean ====
section
/-! DEFINITION. The meaning of each command, one arm per row of spec/opcode_table.json. -/

namespace Sys2Proof.Machine

def exec (i : Instr) (s : State) : Host.Outcome State Fault Refusal :=
  match i with
  | .powerOnReset r => Sys2Proof.Machine.execPowerOnReset r s
  | .resetInput r => Sys2Proof.Machine.execResetInput r s
  | .cueTake => Sys2Proof.Machine.execCueTake s
  | .cueStart => Sys2Proof.Machine.execCueStart s
  | .trayStep => Sys2Proof.Machine.execTrayStep s
  | .homingSearchExhausted => Sys2Proof.Machine.execHomingSearchExhausted s
  | .stallSensed => Sys2Proof.Machine.execStallSensed s
  | .stallPauseEnd => Sys2Proof.Machine.execStallPauseEnd s
  | .trayIndexEdge => Sys2Proof.Machine.execTrayIndexEdge s
  | .camEncoderCount => Sys2Proof.Machine.execCamEncoderCount s
  | .camIndexEdge => Sys2Proof.Machine.execCamIndexEdge s
  | .camTimeout => Sys2Proof.Machine.execCamTimeout s
  | .seatTimeout => Sys2Proof.Machine.execSeatTimeout s
  | .gateChange g => Sys2Proof.Machine.execGateChange g s
  | .trayRemoved => Sys2Proof.Machine.execTrayRemoved s
  | .trayInserted => Sys2Proof.Machine.execTrayInserted s
  | .focusAllowanceSpent => Sys2Proof.Machine.execFocusAllowanceSpent s
  | .lampPeriod vs im => Sys2Proof.Machine.execLampPeriod vs im s
  | .lampRampDone => Sys2Proof.Machine.execLampRampDone s
  | .openFilament => Sys2Proof.Machine.execOpenFilament s
  | .lowSupply vs => Sys2Proof.Machine.execLowSupply vs s
  | .endSwitchChange primary spare => Sys2Proof.Machine.execEndSwitchChange primary spare s
  | .carriageArrival => Sys2Proof.Machine.execCarriageArrival s
  | .carriageTimeout => Sys2Proof.Machine.execCarriageTimeout s
  | .usageTick => Sys2Proof.Machine.execUsageTick s
  | .powerKey => Sys2Proof.Machine.execPowerKey s
  | .runupSupplyGood => Sys2Proof.Machine.execRunupSupplyGood s
  | .runupTimeout => Sys2Proof.Machine.execRunupTimeout s
  | .shutdownComplete => Sys2Proof.Machine.execShutdownComplete s
  | .coolingPeriod gate house => Sys2Proof.Machine.execCoolingPeriod gate house s
  | .fanSpinUpEnd => Sys2Proof.Machine.execFanSpinUpEnd s
  | .fanTachEdge => Sys2Proof.Machine.execFanTachEdge s
  | .fanGapTimeout => Sys2Proof.Machine.execFanGapTimeout s
  | .fanRecoveryGap => Sys2Proof.Machine.execFanRecoveryGap s
  | .fanRecovered => Sys2Proof.Machine.execFanRecovered s
  | .brakeEnd => Sys2Proof.Machine.execBrakeEnd s
  | .reelPulse => Sys2Proof.Machine.execReelPulse s
  | .tapeEnd => Sys2Proof.Machine.execTapeEnd s
  | .tapeSecond => Sys2Proof.Machine.execTapeSecond s
  | .audioPeriod => Sys2Proof.Machine.execAudioPeriod s
  | .cueEdge => Sys2Proof.Machine.execCueEdge s
  | .decodePass => Sys2Proof.Machine.execDecodePass s
  | .cellBoundary => Sys2Proof.Machine.execCellBoundary s
  | .dischargeEnd => Sys2Proof.Machine.execDischargeEnd s
  | .detectPeriod v => Sys2Proof.Machine.execDetectPeriod v s
  | .lineDetected => Sys2Proof.Machine.execLineDetected s
  | .settlingEnd => Sys2Proof.Machine.execSettlingEnd s
  | .lineOvercurrent => Sys2Proof.Machine.execLineOvercurrent s
  | .retryTimerEnd => Sys2Proof.Machine.execRetryTimerEnd s
  | .quietTimerEnd => Sys2Proof.Machine.execQuietTimerEnd s
  | .noAnswerTimeout => Sys2Proof.Machine.execNoAnswerTimeout s
  | .leadFrameSent => Sys2Proof.Machine.execLeadFrameSent s
  | .replyReceived rx => Sys2Proof.Machine.execReplyReceived rx s
  | .replyWindowTimeout low => Sys2Proof.Machine.execReplyWindowTimeout low s
  | .receiveLineQuiet => Sys2Proof.Machine.execReceiveLineQuiet s
  | .syncTimer => Sys2Proof.Machine.execSyncTimer s
  | .pollPeriod => Sys2Proof.Machine.execPollPeriod s
  | .followerPoll addr => Sys2Proof.Machine.execFollowerPoll addr s
  | .followerSync lead age => Sys2Proof.Machine.execFollowerSync lead age s
  | .followerBroadcastCue f => Sys2Proof.Machine.execFollowerBroadcastCue f s
  | .linkStopFrame => Sys2Proof.Machine.execLinkStopFrame s
  | .linkResumeFrame => Sys2Proof.Machine.execLinkResumeFrame s
  | .lineFrameError => Sys2Proof.Machine.execLineFrameError s
  | .syncLost => Sys2Proof.Machine.execSyncLost s
  | .errTimeout => Sys2Proof.Machine.execErrTimeout s
  | .entryTimeout => Sys2Proof.Machine.execEntryTimeout s
  | .autoRepeatHoldEnd => Sys2Proof.Machine.execAutoRepeatHoldEnd s
  | .read a => Sys2Proof.Machine.execRead a s
  | .readDataByte m => Sys2Proof.Machine.execReadDataByte m s
  | .write a => Sys2Proof.Machine.execWrite a s
  | .writeDataByte b => Sys2Proof.Machine.execWriteDataByte b s
  | .setLatch => Sys2Proof.Machine.execSetLatch s
  | .clearLatch => Sys2Proof.Machine.execClearLatch s
  | .readStatus => Sys2Proof.Machine.execReadStatus s
  | .foreignTransaction b => Sys2Proof.Machine.execForeignTransaction b s
  | .transactionEnd => Sys2Proof.Machine.execTransactionEnd s
  | .replyStart => Sys2Proof.Machine.execReplyStart s

end Sys2Proof.Machine
end

