-- ==== Sys2Proof/Machine/Step.lean ====
section
/-! DEFINITION. One step of the block: the command at the front of the queue, or, with none waiting, the event the part owes itself,
or the passage of a microsecond (assumption 1). -/

namespace Sys2Proof.Machine

/-- The command at the front of the queue is executed on the state with the queue's rest. -/
def step (s : State) : Host.Outcome State Fault Refusal :=
  match s.pending with
  | c :: rest => exec c { s with pending := rest }
  | [] =>
    match dueCommand s with
    | some c => exec c { s with free := s.free + 1 }
    | none => .next (idle s)

/-- The command that a word spells, by the code of the memory link, is put at the front of the queue (assumption 29). -/
def State.withFetchWord (s : State) (nbits w : Nat) : State :=
  match decodeTableWord nbits w with
  | some c => { s with pending := c :: s.pending }
  | none => s

end Sys2Proof.Machine
end

