-- ==== Sys2Proof/Safety.lean ====
section
/-! DEFINITION. What holds of the part at every moment: the invariants that the obligations state of every step. Each is a
property of one state; none mentions a run or a program. -/

namespace Sys2Proof.Machine

/-! ### Lamp, power and cooling -/

/-- The lamp is driven only while LIT (R67); the lamp is out and no change cycle is in flight outside ON and SHUTDOWN
(R60, R30, R91); STANDBY owes no cooldown (R99, R101); the going-off mark stands only in LIT and SWAPPING (R62). -/
structure DriveSafe (s : State) : Prop where
  lit : 0 < s.lamp.duty → s.lamp.state = .lit
  dark : s.power.state = .standby ∨ s.power.state = .runup →
    (s.lamp.state = .off ∨ s.lamp.state = .fault) ∧ s.transport.state ≠ .cycling
  paid : s.power.state = .standby → s.power.owed = false
  mark : s.lamp.goingOff.isSome = true → s.lamp.state = .lit ∨ s.lamp.state = .swapping

/-! ### The slide transport -/

/-- A phase other than 0 belongs to CYCLING alone (Table 2-2), outside which no motor runs and no move, pause or seat watch
stands (R50, R52); SEAT finds the cam stopped at its index (R42, R43); READY knows the slot in gate, over the tray position it
stands at, with the cam at angle 0 (R45); UNHOMED, JAMMED and NO_TRAY know no slot in gate (R56); the target lies on the tray
(R30). -/
structure TransportSettled (s : State) : Prop where
  phase : s.transport.state = .cycling ↔ s.transport.phase ≠ .none
  still : s.transport.state ≠ .cycling →
    s.transport.camRunning = false ∧ s.transport.move = none ∧ s.transport.stepTimer = none
      ∧ s.transport.stallTimer = none ∧ s.transport.seatTimer = none
  seat : s.transport.phase = .seat → s.transport.camRunning = false ∧ s.transport.camAngle = some 0
  target : s.transport.state = .cycling → s.transport.target ≤ s.transport.size
  ready : s.transport.state = .ready → s.transport.camAngle = some 0 ∧
    ∃ p, s.transport.position = some p ∧ s.transport.stepCount = some (64 * p) ∧ s.transport.slotInGate = some p
      ∧ p ≤ s.transport.size
  lost : s.transport.state = .unhomed ∨ s.transport.state = .jammed ∨ s.transport.state = .noTray →
    s.transport.slotInGate = none

/-- A change cycle in flight is the executing cue's own, and the executing cue has one exactly then (R19, R25); the cue whose
cycle is in flight is in CHANGING or FADING_IN, one in CHANGING has it in flight (R18, R20), and one marked stopping has it
(R6). -/
structure CycleOwned (s : State) : Prop where
  own : s.transport.state = .cycling ↔ ∃ e, s.engine.cue = some e ∧ e.cycle = true
  phases : ∀ e, s.engine.cue = some e → e.cycle = true → e.phase = .changing ∨ e.phase = .fadingIn
  changing : ∀ e, s.engine.cue = some e → e.phase = .changing → e.cycle = true
  stopping : ∀ e, s.engine.cue = some e → e.stopping = true → e.cycle = true

/-! ### The program, the map and the stores -/

/-- Address `a` lies in one of the `n` addresses from `base`. -/
def lies (a base n : Nat) : Prop := base ≤ a ∧ a < base + n

/-- Every address of the map's three ranges is one of 0x000C..0xFDFF (R185, the range check). -/
def rangesInside (m : MapInfo) : Prop :=
  ∀ a, lies a m.program (16 * m.count) ∨ lies a m.settings 128 ∨ lies a m.live 24 → 12 ≤ a ∧ a ≤ 0xFDFF

/-- No address lies in two of the map's three ranges (R185, the overlap check). -/
def rangesApart (m : MapInfo) : Prop :=
  ∀ a, ¬ (lies a m.program (16 * m.count) ∧ lies a m.settings 128) ∧ ¬ (lies a m.program (16 * m.count) ∧ lies a m.live 24)
    ∧ ¬ (lies a m.settings 128 ∧ lies a m.live 24)

/-- An adopted map passed every check of R185, and the pointer lies within the entries in force (R3). -/
structure MapSound (s : State) : Prop where
  count : ∀ m, s.path.map = .mapped m → m.count ≤ 512
  fits : ∀ m, s.path.map = .mapped m →
    rangeFits m.program (16 * m.count) = true ∧ rangeFits m.settings 128 = true ∧ rangeFits m.live 24 = true
  apart : ∀ m, s.path.map = .mapped m →
    disjoint m.program (16 * m.count) m.settings 128 = true ∧ disjoint m.program (16 * m.count) m.live 24 = true
      ∧ disjoint m.settings 128 m.live 24 = true
  pointer : s.engine.pointer ≤ entriesInForce s

/-- Capture `c'` is `c` with the byte `b` captured at offset `o`, its flag set, and every other byte and flag as it was (R184, R187,
R188). -/
def capturesAt (c c' : Capture) (o : Nat) (b : Byte) : Prop :=
  byteAt c'.bytes o = b ∧ captured c' o = true ∧
    ∀ k, k ≠ o → byteAt c'.bytes k = byteAt c.bytes k ∧ captured c' k = captured c k

/-- The canonical form of what a transaction has gathered. -/
def txnWf (t : Txn) : Bool :=
  assocSorted t.settingsSeen && assocSorted t.live && assocSorted t.absorbed && assocSorted t.logRead

/-- Every addressed store of the part is in its canonical form. -/
structure StoresCanonical (s : State) : Prop where
  header : captureWf s.path.header = true
  program : captureWf s.path.program = true
  mirror : captureWf s.path.mirror = true
  settings : Memory.wf s.path.settings = true
  slots : assocSorted s.writer.slots = true
  txn : ∀ t, s.path.txn = some t → txnWf t = true

/-- The writer's slots are numbered 0..255 and the eight slots at offsets 248..255 of the pointer are free, so that a frame placed
by offset never wraps onto the cell in progress (R130, R136, R137). -/
structure WriterClear (s : State) : Prop where
  pointer : s.writer.pointer < 256
  sorted : assocSorted s.writer.slots = true
  clear : ∀ c ∈ s.writer.slots, c.1 < 256 ∧ (c.1 + 256 - s.writer.pointer) % 256 < 248

/-! ### Queues, levels and counters -/

/-- Every queue, ring and entry keeps its capacity: cues 4 (R8), broadcasts 4 (R156), edges 256 (R115), polls 2 (R158), digits 3
(R174), and a character's cells and a frame's characters in assembly (R122). -/
structure BuffersBounded (s : State) : Prop where
  cues : s.engine.queue.length ≤ 4
  broadcasts : s.line.queue.length ≤ 4
  edges : s.decoder.ring.length ≤ 256
  polls : s.line.pollList.length ≤ 2
  digits : s.handset.entry.length ≤ 3
  bits : s.decoder.bits.length ≤ 9
  chars : s.decoder.chars.length ≤ 3

/-- The log holds at most 64 entries, numbered without a gap up to the next sequence number (R202, R204). -/
structure LogSequential (s : State) : Prop where
  size : s.log.ring.length ≤ 64
  numbers : s.log.ring.map LogEntry.sequence =
    (List.range s.log.ring.length).map (fun i => s.log.next - BitVec.ofNat 16 (s.log.ring.length - i))

/-- The outputs and what they are computed from keep their ranges: lamp level 0..1024 (R64), duty 0..4095 (R71), smoothed power
0..4095 (R95), fan duty 0..255 (R96), temperatures 0..250 °C (R92), audio 0..63 (R112). -/
structure LevelsBounded (s : State) : Prop where
  level : s.lamp.level ≤ 1024
  ramp : s.lamp.ramp.l0 ≤ 1024 ∧ s.lamp.ramp.l1 ≤ 1024
  duty : s.lamp.duty ≤ 4095
  smoothed : s.power.smoothed ≤ 4095
  handed : s.power.handed ≤ 4095
  fan : s.power.fanDuty ≤ 255
  gate : s.power.gateTemp ≤ 250
  house : s.power.houseTemp ≤ 250
  audio : s.deck.audio ≤ 63
  audioRamp : s.deck.ramp.a0 ≤ 63 ∧ s.deck.ramp.a1 ≤ 63

/-- The range of one socket's counts (R80, R81). -/
def usageOk (u : Usage) : Prop := u.dark ≤ 6000 ∧ u.seconds < 60 ∧ u.minutes < 4294967296 ∧ u.starts < 65536

/-- Every counter stays within its width (section 1.6, Saturating counters): usage (R80, R81), lost entries (R204), declined and partial
writes (R190, R195), frame errors and overflows (R115, R124), line errors (R162), misses (R160), the tape counter (R107), the
tape time (R111), the cooldown timer (R100) and the writer's sequence (R134). -/
structure CountersBounded (s : State) : Prop where
  primary : usageOk s.lamp.usePrimary
  spare : usageOk s.lamp.useSpare
  lost : s.log.lost ≤ 255
  declined : s.path.declined ≤ 255
  partialLive : s.path.partialLive ≤ 255
  frameErrors : s.decoder.errors ≤ 255
  overflows : s.decoder.overflows ≤ 255
  lineErrors : s.line.errors ≤ 255
  misses : s.line.handset.misses ≤ 255 ∧ s.line.follower1.misses ≤ 255 ∧ s.line.follower2.misses ≤ 255
    ∧ s.line.follower3.misses ≤ 255
  counter : -2147483648 ≤ s.deck.counter ∧ s.deck.counter ≤ 2147483647
  tapeTime : ∀ t, s.deck.tapeTime = some t → t ≤ 65535
  cooldown : s.power.cooldown ≤ 2550
  sequence : s.writer.sequence < 4

/-- The cell estimate stays within 1,500..2,500 µs (R118, R121); the run in assembly holds at most seven cells, each of that
range. -/
structure CellBounded (s : State) : Prop where
  cell : 1500 ≤ s.decoder.cell ∧ s.decoder.cell ≤ 2500
  run : s.decoder.runCount ≤ 7
  sum : 1500 * s.decoder.runCount ≤ s.decoder.runSum ∧ s.decoder.runSum ≤ 2500 * s.decoder.runCount

/-! ### The line -/

/-- The line unit's role is the role in force, and LISTENING is the follower's one state (R144). -/
structure RoleAgrees (s : State) : Prop where
  role : s.line.role = lineRole s.path.settings
  state : s.line.role = .follower ↔ s.line.state = .listening

/-! ### Fault flags -/

/-- The flags whose persisting condition begins only with the event that sets them (Table 10-4). -/
def trackedFlags : List FaultFlag :=
  [.mapFault, .camDefault, .jam, .primaryFailed, .spareFailed, .noLamp, .fanFailed, .thermalHot, .lineFault]

/-- While the condition of a tracked flag holds, the flag is set (R207, R208). -/
def FlagsTrack (s : State) : Prop := ∀ f ∈ trackedFlags, persists s f = true → flagOn s f = true

/-! ### No wait without its timer -/

/-- A stepping move that still has a step to take. -/
def stepOwed (t : Transport) (v : Move) : Prop :=
  v.status = .stepping ∧ (if v.search then v.searched < searchLimit t else 0 < v.remaining)

/-- The transport's waits: the cam's revolution (R36), the seat watch (R43), the stall pause (R34) and the next step (R32). -/
structure TransportTimed (s : State) : Prop where
  cam : s.transport.camRunning = true → s.transport.camTimer.due.isSome = true
  seat : s.transport.phase = .seat → s.transport.seatTimer.isSome = true
  pause : ∀ v, s.transport.move = some v → v.status = .paused → s.transport.stallTimer.isSome = true
  step : ∀ v, s.transport.move = some v → stepOwed s.transport v → s.transport.stepTimer.isSome = true
  focus : s.transport.focus ≠ .stopped → s.transport.focusAllowance.due.isSome = true

/-- The waits of lamp, power and fan: the carriage (R59), the run-up (R87), the fan watch (R97). -/
structure PowerTimed (s : State) : Prop where
  carriage : s.lamp.state = .swapping → s.lamp.carriageTimer.isSome = true
  runup : s.power.state = .runup → s.power.runupTimer.isSome = true
  spinUp : s.power.fanWatch = .spinUp → s.power.spinTimer.isSome = true
  watching : s.power.fanWatch = .watching → s.power.gapTimer.isSome = true

/-- The waits of the deck and of the cue track: braking (R104), for which no request waits to brake again (R104: a request names one
of the other modes), tape end (R110), the tape second (R111), the cell clock (R131) and the
decode pass, which is made exactly in PLAY (R106, R114). -/
structure DeckTimed (s : State) : Prop where
  brake : s.deck.mode = .braking → s.deck.brakeTimer.isSome = true ∧ s.deck.pending.isSome = true
  request : s.deck.pending ≠ some (.mode .braking)
  watch : s.deck.mode.moving = true → s.deck.endWatch.isSome = true
  second : s.deck.mode = .play ∨ s.deck.mode = .record → s.deck.second.due.isSome = true
  cells : s.deck.mode = .record ↔ s.writer.cellTimer.isSome = true
  decoder : s.deck.mode = .play ↔ s.decoder.state ≠ .off
  pass : s.decoder.state ≠ .off → s.decoder.passTimer.isSome = true

/-- The waits of the line unit (R146 to R159) and of the handset logic (R174, R176). -/
structure LineTimed (s : State) : Prop where
  off : s.line.state = .off → s.line.discharge.isSome = true
  detect : s.line.state = .detect → s.line.detectPeriod.isSome = true
  powering : s.line.state = .powering → s.line.settle.isSome = true
  sending : s.line.state = .sending → s.line.frameEnd.isSome = true
  awaiting : s.line.state = .awaiting → s.line.window.isSome = true
  retry : s.line.state = .retryWait → s.line.retry.isSome = true
  up : s.line.state.powered = true → s.line.state ≠ .powering →
    s.line.noAnswer.isSome = true ∧ s.line.pollPeriod.isSome = true
  entry : s.handset.entry ≠ [] → s.handset.entryTimer.isSome = true
  hold : s.handset.autoRepeat = .timing → s.handset.holdTimer.isSome = true

end Sys2Proof.Machine
end

