-- ==== Sys2Proof/WellFormed.lean ====
section
/-! DEFINITION. Which commands the outside world can send: the checks on the operands that a rule of the spec gives.
The meanings are defined on every command, well-formed or not. -/

namespace Sys2Proof

/-- The five recognised command bytes of the memory link (Table 9-1). -/
def recognisedCommand (b : Byte) : Bool :=
  b == 0x02 || b == 0x03 || b == 0x04 || b == 0x05 || b == 0x06

/-- A command is well-formed when its operands are ones its row can carry:
a line frame has a header, at most four data bytes and a check byte (R152); a POLL is addressed to a station 0..3
(R153); a good SYNC ends between 63 bit times after its break's start (a break of 3b, six bytes of 10b) and 78 (a break of 6b, each
start bit 2b late) (R152); a good CUE frame carries a number of 0..4095, for a larger one is a line frame error (R162); a foreign
transaction begins with a byte that Table 9-1 does not list (R181). -/
def Instr.wf : Instr → Bool
  | .replyReceived (.bytes bs) => decide (2 ≤ bs.length) && decide (bs.length ≤ 6)
  | .followerPoll addr => decide (addr.toNat ≤ 3)
  | .followerSync _ age => decide (63 * 250 ≤ age) && decide (age ≤ 78 * 1000)
  | .followerBroadcastCue (.cue n _) => decide (n.toNat ≤ 4095)
  | .foreignTransaction b => !recognisedCommand b
  | _ => true

end Sys2Proof
end

