-- ==== Sys2Proof/Certificates/Slice0/Obligations.lean ====
section
/-! DEFINITION. The statements for the provers. Each docstring names the rules a statement formalises, or says that it states the
model's own choice. -/

open Sys2Proof Sys2Proof.Machine

/-! ### The block as a machine -/

/-- The queue is first in, first out: a step runs the command at its front on the state with the queue's rest. -/
def Obligations.StepRunsFrontCommand : Prop :=
  ∀ (c : Instr) (rest : List Instr) (s : State), s.pending = c :: rest →
    step s = exec c { s with pending := rest }

/-- With no command waiting, the block runs the event it owes itself with the next free reading, and where it owes none
one microsecond passes: the microsecond counter counts it, the show clock counts every thousandth, and every block but
the writer stays as it is. The model's choice: assumptions 1 and 2. -/
def Obligations.EmptyQueueRunsDueEventOrTick : Prop :=
  (∀ (c : Instr) (s : State), s.pending = [] → dueCommand s = some c → step s = exec c { s with free := s.free + 1 }) ∧
  (∀ s : State, s.pending = [] → dueCommand s = none →
    ∃ t, step s = .next t ∧
      t.clock = { s.clock with
        now := s.clock.now + 1, micros := s.clock.micros + 1
        subMs := if s.clock.subMs < 999 then s.clock.subMs + 1 else 0
        showClock := if s.clock.subMs < 999 then s.clock.showClock else s.clock.showClock + 1 } ∧
      t = { s with clock := t.clock, writer := t.writer } ∧
      t.writer.slots = s.writer.slots ∧ t.writer.pointer = s.writer.pointer ∧ t.writer.sequence = s.writer.sequence)

/-- Every command completes in every state, and none touches the queue of the commands that wait or the count of free
readings. -/
def Obligations.CommandsLeaveQueueAlone : Prop :=
  ∀ (c : Instr) (s : State), ∃ t, exec c s = .next t ∧ t.pending = s.pending ∧ t.free = s.free

/-! ### The resets -/

/-- R143: the writer after either reset, from any state, with the deck in STOP and nothing logged but a change of the power
state; and two neighbouring frames of one kind, sequence and data that complete 400,000 µs apart or more are no duplicates.

R180: the handset logic after either reset, with the focus motor stopped, what the display then shows, the flags whose
conditions hold, and a first reply that sets the reference count and counts no press. -/
def Obligations.WriterAndHandsetAfterEitherReset : Prop :=
  (∀ (c : Instr) (r : ResetSense) (s : State), c = .powerOnReset r ∨ c = .resetInput r →
     ∃ t, exec c s = .next t ∧
       t.writer.slots = [] ∧ t.writer.pointer = 0 ∧ t.writer.sequence = 0 ∧ t.writer.syncRun = 0 ∧
       t.writer.level = false ∧ t.writer.cellTimer = none ∧ t.deck.mode = .stop ∧ recordEnable t = false ∧
       ∀ e ∈ t.log.ring, e.kind = .power) ∧
  (∀ (f : CueFrame) (a : AcceptedFrame) (t : Clock32), a.kind = f.kind → a.sequence = f.sequence → a.data = f.data →
     (duplicates f t (some a) = true ↔ (t - a.time).toNat < 400000)) ∧
  (∀ (c : Instr) (r : ResetSense) (s : State), c = .powerOnReset r ∨ c = .resetInput r →
     ∃ t, exec c s = .next t ∧
       t.handset.lastCount = none ∧ t.handset.lastReport = none ∧ t.handset.report = none ∧ t.handset.entry = [] ∧
       t.handset.entryTimer = none ∧ t.handset.errTimer = none ∧ t.handset.autoRepeat = .none ∧
       t.handset.holdTimer = none ∧ t.handset.economy = false ∧ t.transport.focus = .stopped ∧
       (t.log.flags = 0 → display t = (.dash, .dash, .dash)) ∧ (t.log.flags ≠ 0 → (display t).1 = .letterE) ∧
       (∀ f : FaultFlag, persists t f = true → flagOn t f = true) ∧
       (∀ reply : HandsetReport, countsPress t reply = false) ∧
       ∀ code second : Byte, (handsetReport (some (code, second)) t).handset.lastCount = some (replyCount second))

/-- R28, R57, R83, R101, R129, R167, R201, R210: what power-on reset leaves in every other block, from any state. The
transaction in progress stays, as a foreign one; the microsecond counter at 0 (assumption 4) and the duty handed to the
power unit at 0 (assumption 10) are the model's choices. -/
def Obligations.PowerOnResetState : Prop :=
  ∀ (r : ResetSense) (s : State), ∃ t, exec (.powerOnReset r) s = .next t ∧
    t.engine = { runState := .stopped, pointer := 0, lastCue := 0xFFFF, queue := [], cue := none } ∧
    (∀ i, armed t i = false) ∧
    t.transport.state = (if r.tray then .unhomed else .noTray) ∧ t.transport.phase = .none ∧
    t.transport.stepCount = none ∧ t.transport.position = none ∧ t.transport.slotInGate = none ∧
    t.transport.camAngle = (if r.camAtIndex then some 0 else none) ∧ t.transport.camRunning = false ∧
    t.transport.move = none ∧ t.transport.table = none ∧ t.transport.substituted = false ∧ t.transport.stalls = 0 ∧
    t.transport.gate = r.gate ∧ t.transport.seatedAt = none ∧ t.transport.focus = .stopped ∧
    t.transport.focusAllowance = { left := 4000000, due := none } ∧
    t.lamp.state = .off ∧ t.lamp.goingOff = none ∧ t.lamp.level = 0 ∧ t.lamp.ramp.active = false ∧
    t.lamp.ramp.requester = none ∧ t.lamp.duty = 0 ∧ t.lamp.primary = .good ∧ t.lamp.spare = .good ∧
    t.lamp.active = (if r.endSpare && !r.endPrimary then .spare else .primary) ∧ t.lamp.openCount = 0 ∧
    t.lamp.lowCount = 0 ∧ t.lamp.usePrimary = { dark := 6000, seconds := 0, minutes := 0, starts := 0 } ∧
    t.lamp.useSpare = { dark := 6000, seconds := 0, minutes := 0, starts := 0 } ∧
    t.power.state = .standby ∧ mainsOn t = false ∧ t.power.runupCount = 0 ∧ t.power.runupTimer = none ∧
    t.power.band = .normal ∧ t.power.smoothed = 0 ∧ t.power.handed = 0 ∧ t.power.fanDuty = 0 ∧ t.power.fanWatch = .off ∧
    t.power.owed = false ∧ t.power.cooldown = 0 ∧
    t.deck.pending = none ∧ t.deck.brakeForward = true ∧ t.deck.brakeTimer = none ∧ t.deck.locate = none ∧
    t.deck.endWatch = none ∧ t.deck.counter = 0 ∧ t.deck.tapeTime = none ∧ t.deck.audio = 0 ∧
    t.deck.ramp.active = false ∧ t.decoder.ring = [] ∧ t.decoder.state = .off ∧ t.decoder.reference = none ∧
    t.decoder.cell = 2000 ∧ t.decoder.accepted = none ∧ t.decoder.errors = 0 ∧ t.decoder.overflows = 0 ∧
    t.line.role = .lead ∧ t.line.state = .detect ∧ t.line.detectCount = 0 ∧ t.line.overcurrents = 0 ∧
    t.line.queue = [] ∧ t.line.pollList = [] ∧ t.line.robin = 3 ∧ t.line.syncDue = false ∧ t.line.syncTimer = none ∧
    t.line.handset = absentStation ∧ t.line.follower1 = absentStation ∧ t.line.follower2 = absentStation ∧
    t.line.follower3 = absentStation ∧ t.line.offset = none ∧ t.line.syncHeld = false ∧ t.line.errors = 0 ∧
    t.path.map = .unmapped ∧ t.path.header.marks = [] ∧ t.path.program.marks = [] ∧ t.path.mirror.marks = [] ∧
    t.path.settings = defaultSettings ∧ t.path.latch = false ∧ t.path.declined = 0 ∧ t.path.partialLive = 0 ∧
    t.path.reqCode = 0 ∧ t.path.reqResult = 0 ∧ t.path.showLoaded = false ∧ t.path.usageLoaded = false ∧
    t.path.tapeLoaded = false ∧ (∀ x, t.path.txn = some x → x.kind = .passing) ∧
    t.log = { ring := [], next := 0, lost := 0, flags := 0 } ∧ t.clock.showClock = 0 ∧ t.clock.micros = 0

/-- R28, R57, R84, R102, R107, R129, R201, R210: what reset input clears, and what it keeps: the socket states with
their minutes, starts and dark counts, the temperatures, the band, the tape counter, and the loaded state of the lamp
usage and tape records. A lamp that was not OFF owes cooldown. The temperatures kept (assumption 27), the microsecond
counter kept (assumption 4) and the one log entry that may stand in the emptied log (assumption 26) are the model's
choices. -/
def Obligations.ResetInputKeepsAndClears : Prop :=
  ∀ (r : ResetSense) (s : State), ∃ t, exec (.resetInput r) s = .next t ∧
    t.engine = { runState := .stopped, pointer := 0, lastCue := 0xFFFF, queue := [], cue := none } ∧
    t.transport.state = (if r.tray then .unhomed else .noTray) ∧ t.transport.phase = .none ∧
    t.transport.slotInGate = none ∧ t.transport.camRunning = false ∧ t.transport.gate = r.gate ∧
    t.transport.focus = .stopped ∧
    t.lamp.state = .off ∧ t.lamp.goingOff = none ∧ t.lamp.level = 0 ∧ t.lamp.duty = 0 ∧
    t.lamp.primary = s.lamp.primary ∧ t.lamp.spare = s.lamp.spare ∧
    t.lamp.usePrimary = { s.lamp.usePrimary with seconds := 0 } ∧ t.lamp.useSpare = { s.lamp.useSpare with seconds := 0 } ∧
    t.power.gateTemp = s.power.gateTemp ∧ t.power.houseTemp = s.power.houseTemp ∧ t.power.band = s.power.band ∧
    t.power.smoothed = s.power.smoothed ∧ (s.lamp.state ≠ .off → t.power.owed = true ∧ t.power.cooldown = 0) ∧
    t.deck.mode = .stop ∧ t.deck.counter = s.deck.counter ∧ t.decoder.state = .off ∧
    t.line.role = .lead ∧ t.line.state = .detect ∧ t.line.queue = [] ∧
    t.path.map = .unmapped ∧ t.path.settings = defaultSettings ∧ t.path.latch = false ∧ t.path.showLoaded = false ∧
    t.path.usageLoaded = s.path.usageLoaded ∧ t.path.tapeLoaded = s.path.tapeLoaded ∧
    (∀ x, t.path.txn = some x → x.kind = .passing) ∧ t.log.lost = 0 ∧ t.log.ring.length ≤ 1 ∧
    t.clock.showClock = 0 ∧ t.clock.micros = s.clock.micros ∧
    (flagOn t .primaryFailed = true ↔ s.lamp.primary = .failed) ∧ (flagOn t .spareFailed = true ↔ s.lamp.spare = .failed) ∧
    (flagOn t .thermalHot = true ↔ s.power.band = .hot)

/-! ### The cue engine -/

/-- R10, R12, R13, R18, R19: a REVERSE cue taken with no executing cue and no broadcast to make becomes a plain reverse
change, which starts at once and asks for its ramp to 0. Nothing but the engine and the lamp's ramp record changes.

R10: with the run state HELD, with no cue queued, or with an executing cue that is not in FADING_IN or whose cycle is in
flight, no cue is taken. -/
def Obligations.CuesAreTakenOrWait : Prop :=
  (∀ (s : State) (c : Cue) (rest : List Cue), s.engine.queue = c :: rest → c.kind = .reverse → c.source ≠ .link →
     s.engine.runState ≠ .held → s.engine.cue = none → broadcasts s = false → s.lamp.goingOff = none →
     exec .cueTake s = .next { s with
       engine := { s.engine with
         queue := rest
         cue := some
           { source := c.source, kind := .reverse
             plan :=
               { cueNo := 0xFFFF, entry := none, action := .changeRev, slot := 0,
                 fadeOut := manualFadeOut s.path.settings, fadeIn := manualFadeIn s.path.settings,
                 level := if s.lamp.level = 0 then 1024 else s.lamp.level, audio := none, broadcast := false,
                 early := false, expected := none }
             startMs := s.clock.showClock, startUs := s.clock.micros, phase := .fadingOut, awaiting := true,
             cycle := false, stopping := false, seat := none } }
       lamp := { s.lamp with
         ramp := { l0 := s.lamp.level, l1 := 0, n := manualFadeOut s.path.settings, k := 0, active := true,
                   requester := some .engine } } }) ∧
  (∀ s : State,
     (s.engine.runState = .held ∨ s.engine.queue = [] ∨
       ∃ e, s.engine.cue = some e ∧ (e.phase ≠ .fadingIn ∨ e.cycle = true)) →
     exec .cueTake s = .next s)

/-- R11: a NUMBERED cue that no entry of the lookahead matches is logged CUE_UNEXPECTED with the pointer and the number
of entries examined, and changes nothing else; the search ends at W entries or at the first entry that is not LOADED.

R3, R11: a NUMBERED cue whose number the entry at distance k < W carries, with every entry before it LOADED and carrying
another number, moves the pointer past that entry, whatever the entry's action. -/
def Obligations.LookaheadFindsOrLogsNumber : Prop :=
  (∀ (s : State) (c : Cue) (rest : List Cue) (n : Word) (k : Nat), s.engine.queue = c :: rest → c.kind = .numbered n →
     (s.engine.runState = .running ∨ s.engine.runState = .learning) → s.engine.cue = none → n ≠ 0xFFFF →
     s.log.ring.length < 64 → k ≤ lookahead s.path.settings →
     (∀ i, i < k → entryLoaded s (s.engine.pointer + i) = true ∧
       (rawEntry s.path.program.bytes (s.engine.pointer + i)).cueNo ≠ n) →
     (k = lookahead s.path.settings ∨ entryLoaded s (s.engine.pointer + k) = false) →
     exec .cueTake s = .next { s with
       engine := { s.engine with queue := rest }
       log := { s.log with
         next := s.log.next + 1
         ring := s.log.ring ++
           [{ sequence := s.log.next, kind := .cueUnexpected, source := .cue c.source, time := s.clock.showClock,
              cueNo := n, slot := slotByte s.transport.slotInGate, detail1 := toWord s.engine.pointer,
              detail2 := toWord k }] } }) ∧
  (∀ (s : State) (c : Cue) (rest : List Cue) (n : Word) (k : Nat), s.engine.queue = c :: rest → c.kind = .numbered n →
     (s.engine.runState = .running ∨ s.engine.runState = .learning) → s.engine.cue = none → n ≠ 0xFFFF →
     k < lookahead s.path.settings →
     (∀ i, i < k → entryLoaded s (s.engine.pointer + i) = true ∧
       (rawEntry s.path.program.bytes (s.engine.pointer + i)).cueNo ≠ n) →
     entryLoaded s (s.engine.pointer + k) = true →
     (rawEntry s.path.program.bytes (s.engine.pointer + k)).cueNo = n →
     ∃ t, exec .cueTake s = .next t ∧ t.engine.pointer = s.engine.pointer + k + 1)

/-- R18, R20, R22: the scheduled start of a FADE entry makes its cue number the last executed, asks for the ramp to its
level over its fade-in time, and for the audio ramp when it has an audio level. The start from which the gate latency
counts, the microsecond counter at the moment the cue leaves WAITING, is the model's choice (assumption 31). -/
def Obligations.ScheduledFadeStarts : Prop :=
  ∀ (s : State) (e : Executing), s.engine.cue = some e → e.phase = .waiting → e.plan.action = .fade →
    e.plan.entry.isSome = true → s.lamp.goingOff = none →
    exec .cueStart s = .next { s with
      engine := { s.engine with
        lastCue := e.plan.cueNo
        cue := some { e with startUs := s.clock.micros, phase := .fadingIn, awaiting := true } }
      lamp := { s.lamp with
        ramp := { l0 := s.lamp.level, l1 := min 1024 e.plan.level, n := e.plan.fadeIn, k := 0, active := true,
                  requester := some .engine } }
      deck := { s.deck with
        ramp := match e.plan.audio with
          | some a => { a0 := s.deck.audio, a1 := min 63 a, n := e.plan.fadeIn, k := 0, active := true }
          | none => s.deck.ramp } }

/-- R21: an END cue stops the show: STOPPED, no cue queued or executing, the audio asked down to 0 over the stop fade.
-/
def Obligations.EndCueStopsShow : Prop :=
  ∀ (s : State) (c : Cue) (rest : List Cue), s.engine.queue = c :: rest → c.kind = .endShow →
    s.engine.runState ≠ .held → s.engine.cue = none →
    ∃ t, exec .cueTake s = .next t ∧ t.engine.runState = .stopped ∧ t.engine.queue = [] ∧ t.engine.cue = none ∧
      t.engine.pointer = s.engine.pointer ∧ t.engine.lastCue = s.engine.lastCue ∧
      t.deck.ramp = { a0 := s.deck.audio, a1 := 0, n := stopFade s.path.settings, k := 0, active := true } ∧
      t.transport = s.transport

/-! ### The slide transport -/

/-- R32, R33: a due step of a move with more than one step remaining is taken in a TRAY_FREE window, in the move's
direction round the tray, and the next falls due after the interval of the step rate; outside such a window the move is
suspended and the step is not taken. Nothing but the transport changes.

R34: the first stall of a cycle begins the stall pause; its end begins a fresh profile over the steps remaining, with
the rates of the settings in force, in a TRAY_FREE window. -/
def Obligations.TrayStepsAndStalls : Prop :=
  (∀ (s : State) (v : Move) (count : Nat), s.transport.state = .cycling → s.transport.move = some v →
     v.status = .stepping → v.search = false → 2 ≤ v.remaining → s.transport.stepCount = some count →
     (trayFree s.transport = true →
       exec .trayStep s = .next { s with transport := { s.transport with
         stepCount := some (match v.dir with
           | .forward => (count + 1) % (64 * (s.transport.size + 1))
           | .reverse => (count + 64 * (s.transport.size + 1) - 1) % (64 * (s.transport.size + 1)))
         move := some { v with remaining := v.remaining - 1, done := v.done + 1 }
         stepTimer := some (s.clock.now +
           1000000 / min v.rMax (v.rStart + v.rAcc * min (v.done + 1) (v.remaining - 1 - 1))) } }) ∧
     (trayFree s.transport = false →
       exec .trayStep s = .next { s with transport := { s.transport with
         move := some { v with status := .suspended }, stepTimer := none } })) ∧
  ((∀ (s : State) (v : Move), s.transport.state = .cycling → s.transport.move = some v → v.status = .stepping →
     v.search = false → 1 ≤ v.remaining → s.transport.stalls = 0 →
     exec .stallSensed s = .next { s with transport := { s.transport with
       stalls := 1, move := some { v with status := .paused }, stepTimer := none
       stallTimer := some (s.clock.now + stallPause s.path.settings) } }) ∧
   (∀ (s : State) (v : Move), s.transport.state = .cycling → s.transport.move = some v → v.status = .paused →
     v.search = false → 1 ≤ v.remaining → trayFree s.transport = true →
     exec .stallPauseEnd s = .next { s with transport := { s.transport with
       stallTimer := none
       move := some { v with
         status := .stepping, done := 0, rStart := rStart s.path.settings, rAcc := rAcc s.path.settings,
         rMax := rMax s.path.settings }
       stepTimer := some (s.clock.now +
         1000000 / min (rMax s.path.settings) (rStart s.path.settings + rAcc s.path.settings * min 0 (v.remaining - 1))) } }))

/-- R49, R31, R32: the index edge ends a homing search: the step count and position are 0, and the move to the target
goes the shorter way round the tray, forward where both are as long. -/
def Obligations.IndexEdgeEndsHomingSearch : Prop :=
  ∀ (s : State) (v : Move), s.transport.state = .cycling → s.transport.move = some v → v.search = true →
    v.status = .stepping → 1 ≤ s.transport.target → s.transport.target ≤ s.transport.size →
    trayFree s.transport = true →
    ∃ t m, exec .trayIndexEdge s = .next t ∧ t.transport.stepCount = some 0 ∧ t.transport.position = some 0 ∧
      t.transport.move = some m ∧ m.search = false ∧ m.status = .stepping ∧ m.done = 0 ∧
      m.dir = (if 2 * s.transport.target ≤ s.transport.size + 1 then .forward else .reverse) ∧
      m.remaining = 64 * min s.transport.target (s.transport.size + 1 - s.transport.target) ∧
      t = { s with transport := t.transport }

/-- R36: an encoder count while the cam runs advances a referenced angle by one, modulo 180, whatever else the count
brings; a count while the cam stands, or at an unreferenced angle, changes nothing.

R36, R42, R43: the index edge sets the angle to 0. In DROP it ends the revolution: the cam stops and SEAT watches a gate
that is not SEATED for the seat timeout; at a cam at rest with the focus motor stopped it changes nothing else. -/
def Obligations.CamCountsAndIndexEdge : Prop :=
  ((∀ (s : State) (a : Nat), s.transport.camRunning = true → s.transport.camAngle = some a →
     ∃ t, exec .camEncoderCount s = .next t ∧ t.transport.camAngle = some ((a + 1) % 180)) ∧
   (∀ s : State, s.transport.camRunning = false ∨ s.transport.camAngle = none → exec .camEncoderCount s = .next s)) ∧
  ((∀ s : State, s.transport.camRunning = false → s.transport.focus = .stopped →
     exec .camIndexEdge s = .next { s with transport := { s.transport with camAngle := some 0 } }) ∧
   (∀ s : State, s.transport.camRunning = true → s.transport.phase = .drop → s.transport.gate ≠ .seated →
     s.transport.target ≠ 0 → s.transport.focus = .stopped →
     exec .camIndexEdge s = .next { s with transport := { s.transport with
       camAngle := some 0, phase := .seat, camRunning := false, camTimer := { left := 0, due := none }
       seatTimer := some (s.clock.now + seatTimeout s.path.settings) } }))

/-- R50, R39, R25, R7 with Table 2-7: the search exhausted, the cam timeout, the second stall, a gate that reads SEATED as
a LIFT_CHECK window becomes active, and a PARTIAL gate after the RETRY each end the cycle in JAMMED with its own cause: every motor stops, the slot in gate is unknown, JAM is flagged,
the queue is cleared, a RUNNING or LEARNING show is held, and the executing cue whose cycle it was is gone. -/
def Obligations.JamsEndTheCycle : Prop :=
  ∀ (c : Instr) (cause : JamCause) (s : State), s.transport.state = .cycling →
    ((c = .homingSearchExhausted ∧ cause = .noIndex ∧
        ∃ v, s.transport.move = some v ∧ v.search = true ∧ 64 * (s.transport.size + 1) + 64 ≤ v.searched) ∨
      (c = .camTimeout ∧ cause = .cam ∧ s.transport.camRunning = true) ∨
      (c = .stallSensed ∧ cause = .tray ∧ 1 ≤ s.transport.stalls ∧
        ∃ v, s.transport.move = some v ∧ v.status = .stepping ∧ v.search = false ∧ 1 ≤ v.remaining) ∨
      (c = .camEncoderCount ∧ cause = .lift ∧ s.transport.camRunning = true ∧ s.transport.gate = .seated ∧
        s.transport.phase ≠ .none ∧ s.transport.phase ≠ .camHome ∧
        ∃ a tab w, s.transport.camAngle = some a ∧ s.transport.table = some tab ∧ w ∈ tab.windows ∧
          w.fn = .liftCheck ∧ windowActive w a = false ∧ windowActive w ((a + 1) % 180) = true) ∨
      (c = .seatTimeout ∧ cause = .seat ∧ s.transport.phase = .seat ∧ s.transport.gate = .partialSeat ∧
        s.transport.retried = true)) →
    ∃ t, exec c s = .next t ∧ t.transport.state = .jammed ∧ t.transport.jamCause = some cause ∧
      t.transport.phase = .none ∧ t.transport.camRunning = false ∧ t.transport.move = none ∧
      t.transport.slotInGate = none ∧ flagOn t .jam = true ∧ t.engine.queue = [] ∧
      t.engine.runState = (match s.engine.runState with
        | .running => .held
        | .learning => .held
        | r => r) ∧
      (∀ e, s.engine.cue = some e → e.cycle = true → t.engine.cue = none)

/-- R43, R45, R56: the seat made in SEAT, or the seat timeout at an EMPTY or SEATED gate, completes the cycle: READY at
the target, which is the slot in gate, with the step count to match. -/
def Obligations.SeatCompletesCycle : Prop :=
  ∀ (c : Instr) (s : State), s.transport.state = .cycling → s.transport.phase = .seat →
    s.transport.sizeChanged = false →
    (c = .gateChange .seated ∨ (c = .seatTimeout ∧ s.transport.gate ≠ .partialSeat)) →
    ∃ t, exec c s = .next t ∧ t.transport.state = .ready ∧ t.transport.phase = .none ∧
      t.transport.position = some s.transport.target ∧ t.transport.slotInGate = some s.transport.target ∧
      t.transport.stepCount = some (64 * s.transport.target) ∧ t.transport.seatTimer = none ∧
      t.transport.camAngle = s.transport.camAngle

/-- R43, R44, R46: a PARTIAL gate at the first seat timeout of a cycle starts the RETRY revolution; a gate reading that
makes no seat is followed and changes nothing else.

R52: removing the tray over the gap in READY stops every motor and forgets where the tray stands, with no log entry; in
NO_TRAY it changes nothing. In CYCLING, or in READY away from the gap, TRAY_PULLED is flagged; a cycle in flight ends
with the queue cleared and a RUNNING or LEARNING show held (R25, R7).

R55: at the end of the run allowance the focus motor stops and the allowance is spent. -/
def Obligations.GateTrayAndFocusEvents : Prop :=
  ((∀ s : State, s.transport.state = .cycling → s.transport.phase = .seat → s.transport.gate = .partialSeat →
     s.transport.retried = false → s.transport.focus = .stopped →
     exec .seatTimeout s = .next { s with transport := { s.transport with
       phase := .retry, retried := true, seatTimer := none, camRunning := true
       camTimer := { left := 0, due := some (s.clock.now + camTimeout s.path.settings) } } }) ∧
   (∀ (g : GateReading) (s : State), ¬ (s.transport.state = .cycling ∧ s.transport.phase = .seat ∧ g = .seated) →
     exec (.gateChange g) s = .next { s with transport := { s.transport with gate := g } })) ∧
  ((∀ s : State, s.transport.state = .ready → s.transport.position = some 0 →
     exec .trayRemoved s = .next { s with transport := { s.transport with
       state := .noTray, phase := .none, camRunning := false, camTimer := { left := 0, due := none }, move := none,
       stepTimer := none, stallTimer := none, seatTimer := none, stepCount := none, position := none, slotInGate := none,
       jamCause := none } }) ∧
   (∀ s : State, s.transport.state = .noTray → exec .trayRemoved s = .next s) ∧
   (∀ s : State, s.transport.state = .cycling ∨ (s.transport.state = .ready ∧ s.transport.position ≠ some 0) →
     ∃ t, exec .trayRemoved s = .next t ∧ t.transport.state = .noTray ∧ t.transport.phase = .none ∧
       t.transport.slotInGate = none ∧ t.transport.camRunning = false ∧ flagOn t .trayPulled = true ∧
       (s.transport.state = .cycling → t.engine.queue = [] ∧
         t.engine.runState = (match s.engine.runState with
           | .running => .held
           | .learning => .held
           | r => r)))) ∧
  (∀ s : State, s.transport.focus ≠ .stopped →
     exec .focusAllowanceSpent s = .next { s with transport := { s.transport with
       focus := .stopped, focusAllowance := { left := 0, due := none } } })

/-- R53: a tray reported present while NO_TRAY makes the transport UNHOMED, from which the next change request runs a
homing cycle where mains is on for it; in any other state the report changes nothing. -/
def Obligations.TrayInsertedMakesUnhomed : Prop :=
  ∀ s : State,
    (s.transport.state = .noTray →
      exec .trayInserted s = .next { s with transport := { s.transport with state := .unhomed } } ∧
      (s.power.state = .on ∨ s.power.state = .shutdown →
        changeAnswer { s with transport := { s.transport with state := .unhomed } } = .homing)) ∧
    (s.transport.state ≠ .noTray → exec .trayInserted s = .next s)

/-! ### The lamp controller -/

/-- R65, R67, R71, R73, R80: a lamp period in which no ramp runs and the lamp is not LIT leaves it dark: duty, open-
filament count and low-supply count are 0, both sockets' dark counts go on to 6,000 and no further, and the duty 0 is
handed to the power unit (R72). Nothing else changes but the period's own timer.

R65: at k = N the level becomes the target and the ramp is over; with no requester, nothing hears of it. Below N a lamp
period moves the level to k/N of the way, the quotient truncated toward zero: in a dark period as above, and with the
lamp LIT in ON.

R62: outside STANDBY, where no lamp is LIT (Obligations.StepKeepsDriveSafe), the off ramp's end puts a LIT lamp out, the
mark cleared, the duty 0 and the level at the ramp's target.

R23, R24: a ramp of the cue engine is disregarded by a cue that awaits none. A cue awaiting it in FADING_IN completes with
CUE_RUN, or waits on for its cycle. One in FADING_OUT enters CHANGING and asks for its change.

R19, R30, R31, R37, R40, R48: in ON and SHUTDOWN a READY transport takes it: CYCLING, in LIFT, with the cam running, the
table in force latched or the built-in one in its place with CAM_DEFAULT, and the tray to go the shorter way to the target;
an UNHOMED one starts a homing cycle, in CAM_HOME unless the cam is at its index. Where a LIFT_CHECK window is active at
angle 0 the gate is taken not to read SEATED.

R25: a JAMMED or NO_TRAY transport, and any without power, refuses: the cue ends, the show is held and the queue cleared. -/
def Obligations.DarkPeriodsAndRampEnds : Prop :=
  (∀ (vs im : Code10) (s : State), s.lamp.ramp.active = false → s.lamp.state ≠ .lit → s.power.state ≠ .runup →
     exec (.lampPeriod vs im) s = .next { s with
       clock := { s.clock with lampPeriod := some (s.clock.now + 10000) }
       lamp := { s.lamp with
         duty := 0, lowCount := 0, openCount := 0
         usePrimary := { s.lamp.usePrimary with dark := min 6000 (s.lamp.usePrimary.dark + 1) }
         useSpare := { s.lamp.useSpare with dark := min 6000 (s.lamp.useSpare.dark + 1) } }
       power := { s.power with handed := 0 } }) ∧
  (∀ (vs im : Code10) (s : State), s.lamp.ramp.active = true → s.lamp.ramp.k + 1 < s.lamp.ramp.n →
     (s.lamp.state ≠ .lit → s.power.state ≠ .runup →
       exec (.lampPeriod vs im) s = .next { s with
         clock := { s.clock with lampPeriod := some (s.clock.now + 10000) }
         lamp := { s.lamp with
           level :=
             if s.lamp.ramp.l0 ≤ s.lamp.ramp.l1 then
               s.lamp.ramp.l0 + (s.lamp.ramp.l1 - s.lamp.ramp.l0) * (s.lamp.ramp.k + 1) / s.lamp.ramp.n
             else s.lamp.ramp.l0 - (s.lamp.ramp.l0 - s.lamp.ramp.l1) * (s.lamp.ramp.k + 1) / s.lamp.ramp.n
           ramp := { s.lamp.ramp with k := s.lamp.ramp.k + 1 }
           duty := 0, lowCount := 0, openCount := 0
           usePrimary := { s.lamp.usePrimary with dark := min 6000 (s.lamp.usePrimary.dark + 1) }
           useSpare := { s.lamp.useSpare with dark := min 6000 (s.lamp.useSpare.dark + 1) } }
         power := { s.power with handed := 0 } }) ∧
     (s.lamp.state = .lit → s.power.state = .on →
       ∃ t, exec (.lampPeriod vs im) s = .next t ∧
         t.lamp.ramp = { s.lamp.ramp with k := s.lamp.ramp.k + 1 } ∧
         t.lamp.level =
           (if s.lamp.ramp.l0 ≤ s.lamp.ramp.l1 then
             s.lamp.ramp.l0 + (s.lamp.ramp.l1 - s.lamp.ramp.l0) * (s.lamp.ramp.k + 1) / s.lamp.ramp.n
           else s.lamp.ramp.l0 - (s.lamp.ramp.l0 - s.lamp.ramp.l1) * (s.lamp.ramp.k + 1) / s.lamp.ramp.n))) ∧
  (∀ s : State, s.lamp.ramp.active = true → s.lamp.ramp.n ≤ s.lamp.ramp.k + 1 → s.lamp.ramp.requester = none →
     exec .lampRampDone s = .next { s with lamp := { s.lamp with
       level := s.lamp.ramp.l1, ramp := { s.lamp.ramp with k := s.lamp.ramp.k + 1, active := false } } }) ∧
  (∀ s : State, s.lamp.ramp.active = true → s.lamp.ramp.n ≤ s.lamp.ramp.k + 1 → s.lamp.ramp.requester = some .off →
     s.lamp.state = .lit → s.lamp.goingOff.isSome = true → s.power.state ≠ .standby →
     ∃ t, exec .lampRampDone s = .next t ∧ t.lamp.state = .off ∧ t.lamp.goingOff = none ∧ t.lamp.duty = 0 ∧
       t.lamp.level = s.lamp.ramp.l1 ∧ t.lamp.ramp.active = false) ∧
  (∀ (e : Executing) (tab : CamTable) (s : State), s.lamp.ramp.active = true → s.lamp.ramp.n ≤ s.lamp.ramp.k + 1 →
     s.lamp.ramp.requester = some .engine → s.engine.cue = some e → e.stopping = false →
     tab = (if tableValid (camTableOf s.path.settings) then camTableOf s.path.settings else builtInTable) →
     ∃ t, exec .lampRampDone s = .next t ∧
       t.lamp = { s.lamp with
         level := s.lamp.ramp.l1, ramp := { s.lamp.ramp with k := s.lamp.ramp.k + 1, active := false } } ∧
       (e.awaiting = false → t = { s with lamp := t.lamp }) ∧
       (e.awaiting = true → e.phase = .fadingIn → e.cycle = true →
         t = { s with lamp := t.lamp, engine := { s.engine with cue := some { e with awaiting := false } } }) ∧
       (e.awaiting = true → e.phase = .fadingIn → e.cycle = false →
         t = { s with lamp := t.lamp, engine := { s.engine with cue := none }, log := t.log } ∧
         t.log.next = s.log.next + 1 ∧
         t.log.ring.getLast? =
           some { sequence := s.log.next, kind := .cueRun, source := .cue e.source, time := s.clock.showClock,
                  cueNo := e.plan.cueNo, slot := slotByte s.transport.slotInGate
                  detail1 := match e.seat with
                    | none => 0xFFFF
                    | some seat => toWord (min 65534 ((seat - e.startUs).toNat / 1000))
                  detail2 := toWord e.source.code }) ∧
       (e.awaiting = true → e.phase = .fadingOut →
         (s.transport.state = .jammed ∨ s.transport.state = .noTray ∨
             ((s.transport.state = .ready ∨ s.transport.state = .unhomed) ∧
               (s.power.state = .standby ∨ s.power.state = .runup)) →
           t.transport = s.transport ∧ t.engine.cue = none ∧ t.engine.queue = [] ∧
           t.engine.runState =
             (if s.engine.runState = .running ∨ s.engine.runState = .learning then .held else s.engine.runState)) ∧
         (s.power.state = .on ∨ s.power.state = .shutdown →
           ¬ (tableActive tab .liftCheck 0 = true ∧ s.transport.gate = .seated) →
           (∀ p, s.transport.state = .ready → s.transport.position = some p → s.transport.stepCount = some (64 * p) →
             p ≤ traySize s.path.settings →
             t = { s with lamp := t.lamp, engine := t.engine, transport := t.transport, log := t.log } ∧
             t.engine = { s.engine with cue := some { e with phase := .changing, awaiting := false, cycle := true } } ∧
             t.transport.state = .cycling ∧ t.transport.phase = .lift ∧ t.transport.size = traySize s.path.settings ∧
             t.transport.target =
               (match e.plan.action with
                 | .changeRev => (p + traySize s.path.settings) % (traySize s.path.settings + 1)
                 | .goto => min e.plan.slot (traySize s.path.settings)
                 | _ => (p + 1) % (traySize s.path.settings + 1)) ∧
             t.transport.table = some tab ∧ t.transport.camRunning = true ∧
             (tableValid (camTableOf s.path.settings) = false → flagOn t .camDefault = true) ∧
             ∃ v, t.transport.move = some v ∧ v.search = false ∧
               (v.dir, v.remaining) =
                 (let df := (t.transport.target + (traySize s.path.settings + 1) - p) % (traySize s.path.settings + 1)
                  if df ≤ traySize s.path.settings + 1 - df then (.forward, 64 * df)
                  else (.reverse, 64 * (traySize s.path.settings + 1 - df)))) ∧
           (s.transport.state = .unhomed →
             t = { s with lamp := t.lamp, engine := t.engine, transport := t.transport, log := t.log } ∧
             t.engine = { s.engine with cue := some { e with phase := .changing, awaiting := false, cycle := true } } ∧
             t.transport.state = .cycling ∧ t.transport.size = traySize s.path.settings ∧
             t.transport.target =
               (if e.plan.action = .goto then min e.plan.slot (traySize s.path.settings) else 1) ∧
             t.transport.camRunning = true ∧
             (s.transport.camAngle = some 0 → t.transport.phase = .lift ∧ t.transport.table = some tab ∧
               ∃ v, t.transport.move = some v ∧ v.search = true ∧ v.dir = .forward ∧ v.searched = 0) ∧
             (s.transport.camAngle ≠ some 0 → t.transport.phase = .camHome ∧ shutterOn t.transport = true)))))

/-- R67 to R73: the duty of a lamp period in which the lamp may be driven and no ramp runs. The power of the level comes
from the monotone curve; economy scales it by Q/16; blanking, floor and, in band WARM, the cap apply; the supply
compensation multiplies by the square of Vn/Vs up to 4,095; and the slew limits the rise over the previous duty. The
duty is handed to the power unit. -/
def Obligations.DrivenLampPeriodDuty : Prop :=
  ∀ (vs im : Code10) (s : State), s.lamp.ramp.active = false → s.lamp.state = .lit → s.power.state = .on →
    s.power.band ≠ .hot → s.power.fanWatch ≠ .failed → im.toNat ≤ currentMax s.path.settings →
    (s.lamp.duty < 256 ∨ currentMin s.path.settings ≤ im.toNat) → nominalSupply s.path.settings ≤ 2 * vs.toNat →
    ∃ t, exec (.lampPeriod vs im) s = .next t ∧
      t.lamp.duty =
        (let b := s.path.settings
         let p := if s.lamp.level / 64 < 16 then
             curveAt b (s.lamp.level / 64) +
               (curveAt b (s.lamp.level / 64 + 1) - curveAt b (s.lamp.level / 64)) * (s.lamp.level % 64) / 64
           else curveAt b 16
         let pe := if s.handset.economy then p * economyFactor b / 16 else p
         let blank := optBlank b = true ∧ (s.transport.gate = .empty ∨ s.transport.state = .jammed)
         let floored := max (keepAlive b) (if blank then 0 else pe)
         let pf := if s.power.band = .warm then min (derateCap b) floored else floored
         let draw := min 4095 (pf * (nominalSupply b * nominalSupply b) / (vs.toNat * vs.toNat))
         min draw (s.lamp.duty + slewStep b)) ∧
      t.lamp.state = .lit ∧ t.lamp.level = s.lamp.level ∧ t.lamp.openCount = 0 ∧ t.lamp.lowCount = 0 ∧
      t = { s with lamp := t.lamp, clock := t.clock, power := { s.power with handed := t.lamp.duty } }

/-- R58, R76: in OFF and FAULT the active socket follows the end switches while they report one position; the arrival of
an operator's swap that has not gone off meanwhile makes the lamp LIT with duty 0.

R59: with no swap in progress, a timeout taken first having ended it, the report of the active socket's end switch changes
the carriage position alone.

R77, R62: the carriage timeout ends the swap in FAULT with the mark cleared, NO_LAMP and CARRIAGE flagged, and the
socket states as they were. -/
def Obligations.CarriageArrivesOrFaults : Prop :=
  ((∀ (p q : Bool) (s : State), s.lamp.state = .off ∨ s.lamp.state = .fault →
     exec (.endSwitchChange p q) s = .next { s with lamp := { s.lamp with
       endPrimary := p, endSpare := q
       active := if p && !q then .primary else if q && !p then .spare else s.lamp.active } }) ∧
   (∀ s : State, s.lamp.state = .swapping → s.lamp.failureSwap = false → s.lamp.goingOff = none →
     exec .carriageArrival s = .next { s with lamp := { s.lamp with
       state := .lit, duty := 0, carriageTimer := none, failureSwap := false
       endPrimary := decide (s.lamp.active = .primary), endSpare := decide (s.lamp.active = .spare) } }) ∧
   (∀ s : State, s.lamp.state ≠ .swapping →
     exec .carriageArrival s = .next { s with lamp := { s.lamp with
       endPrimary := decide (s.lamp.active = .primary), endSpare := decide (s.lamp.active = .spare) } })) ∧
  (∀ s : State, s.lamp.state = .swapping →
     ∃ t, exec .carriageTimeout s = .next t ∧ t.lamp.state = .fault ∧ t.lamp.goingOff = none ∧ t.lamp.duty = 0 ∧
       t.lamp.carriageTimer = none ∧ flagOn t .noLamp = true ∧ flagOn t .carriage = true ∧
       t.lamp.primary = s.lamp.primary ∧ t.lamp.spare = s.lamp.spare ∧ t.lamp.level = s.lamp.level)

/-- R71: the fiftieth low reading in succession posts SUPPLY with the reading and the nominal supply, and sets its flag.

R81: a usage tick uses the duty of the lamp period last completed before it, as that period handed it over (R72). With
that duty above 0 it adds a second to the active socket, and a minute at the sixtieth; with that duty 0 it counts
nothing. The minutes saturate. That a reset input keeps the duty handed over, so that a tick before the next lamp period
uses it, is the model's choice (assumption 10). -/
def Obligations.SupplyAndUsageCounts : Prop :=
  (∀ (vs : Code10) (s : State), s.lamp.lowCount = 49 → s.log.ring.length < 64 →
     exec (.lowSupply vs) s = .next { s with
       lamp := { s.lamp with lowCount := 50 }
       log := { s.log with
         next := s.log.next + 1
         flags := s.log.flags ||| 0x0800
         ring := s.log.ring ++
           [{ sequence := s.log.next, kind := .supply, source := .lamp, time := s.clock.showClock, cueNo := 0xFFFF,
              slot := slotByte s.transport.slotInGate, detail1 := toWord vs.toNat,
              detail2 := toWord (nominalSupply s.path.settings) }] } }) ∧
  ((∀ s : State, 0 < s.power.handed → s.lamp.active = .primary →
     exec .usageTick s = .next { s with
       clock := { s.clock with usageTick := some (s.clock.now + 1000000) }
       lamp := { s.lamp with usePrimary := { s.lamp.usePrimary with
         seconds := if s.lamp.usePrimary.seconds < 59 then s.lamp.usePrimary.seconds + 1 else 0
         minutes := if s.lamp.usePrimary.seconds < 59 then s.lamp.usePrimary.minutes
           else min 4294967295 (s.lamp.usePrimary.minutes + 1) } } }) ∧
   (∀ s : State, 0 < s.power.handed → s.lamp.active = .spare →
     exec .usageTick s = .next { s with
       clock := { s.clock with usageTick := some (s.clock.now + 1000000) }
       lamp := { s.lamp with useSpare := { s.lamp.useSpare with
         seconds := if s.lamp.useSpare.seconds < 59 then s.lamp.useSpare.seconds + 1 else 0
         minutes := if s.lamp.useSpare.seconds < 59 then s.lamp.useSpare.minutes
           else min 4294967295 (s.lamp.useSpare.minutes + 1) } } }) ∧
   (∀ s : State, s.power.handed = 0 →
     exec .usageTick s = .next { s with clock := { s.clock with usageTick := some (s.clock.now + 1000000) } }))

/-- R81: the minutes and starts of both sockets never decrease, but for the end of a transaction, which loads or applies
the record, and for power-on reset; stated from states whose counts lie within their widths. -/
def Obligations.UsageNeverDecreases : Prop :=
  ∀ (c : Instr) (s t : State), exec c s = .next t → c ≠ .transactionEnd → (∀ r, c ≠ .powerOnReset r) →
    usageOk s.lamp.usePrimary → usageOk s.lamp.useSpare →
    s.lamp.usePrimary.minutes ≤ t.lamp.usePrimary.minutes ∧ s.lamp.usePrimary.starts ≤ t.lamp.usePrimary.starts ∧
      s.lamp.useSpare.minutes ≤ t.lamp.useSpare.minutes ∧ s.lamp.useSpare.starts ≤ t.lamp.useSpare.starts

/-! ### The cooling and power unit -/

/-- R86 with Table 4-3, and R90, R91: what the power key makes of each power state. -/
def Obligations.PowerKeyByState : Prop :=
  ∀ s : State, ∃ t, exec .powerKey s = .next t ∧
    (s.power.state = .standby → t.power.state = .runup ∧ mainsOn t = true ∧ t.power.runupCount = 0 ∧
      t.power.runupTimer = some (s.clock.now + 2000000) ∧ t.power.fanDuty = fanMax s.path.settings) ∧
    (s.power.state = .runup → s.power.owed = false → t.power.state = .standby ∧ mainsOn t = false ∧ t.power.fanDuty = 0) ∧
    (s.power.state = .on → s.lamp.state = .lit → t.power.state = .shutdown ∧ t.engine.runState = .stopped ∧
      t.engine.queue = [] ∧ t.lamp.goingOff = some .power ∧ t.lamp.ramp.l1 = 0 ∧
      t.lamp.ramp.n = powerFade s.path.settings) ∧
    (s.power.state = .on → (s.lamp.state = .off ∨ s.lamp.state = .fault) → s.transport.state ≠ .cycling →
      s.power.owed = false → t.power.state = .standby) ∧
    (s.power.state = .shutdown → t.power.state = .on ∧ t.power.owed = false ∧ t.power.cooldown = 0 ∧ t.lamp = s.lamp)

/-- R87, R88: the tenth good reading ends RUNUP in ON; the run-up timer's end gives the run-up up, with SUPPLY flagged,
for STANDBY where no cooldown is owed.

R91: SHUTDOWN is left for STANDBY when the lamp is out, no change cycle is in flight and no cooldown is owed, and stays
as it is while one of the three is wanting. -/
def Obligations.RunupAndShutdownEnd : Prop :=
  ((∀ s : State, s.power.state = .runup → 9 ≤ s.power.runupCount →
     ∃ t, exec .runupSupplyGood s = .next t ∧ t.power.state = .on ∧ t.power.runupTimer = none ∧ mainsOn t = true ∧
       t.lamp = s.lamp ∧ t.engine = s.engine ∧ t.transport = s.transport) ∧
   (∀ s : State, s.power.state = .runup → s.power.owed = false →
     ∃ t, exec .runupTimeout s = .next t ∧ t.power.state = .standby ∧ mainsOn t = false ∧ t.power.fanDuty = 0 ∧
       t.power.runupTimer = none ∧ flagOn t .supply = true ∧ t.lamp = s.lamp ∧ t.engine = s.engine)) ∧
  (∀ s : State, s.power.state = .shutdown →
     ((s.lamp.state = .off ∨ s.lamp.state = .fault) → s.transport.state ≠ .cycling → s.power.owed = false →
       ∃ t, exec .shutdownComplete s = .next t ∧ t.power.state = .standby ∧ mainsOn t = false ∧ t.power.fanDuty = 0) ∧
     (s.lamp.state = .lit ∨ s.lamp.state = .swapping ∨ s.transport.state = .cycling ∨ s.power.owed = true →
       exec .shutdownComplete s = .next s))

/-- R92, R93, R95, R96: a cooling period with both temperatures released from every threshold and no cooldown owed: band
NORMAL, the smoothed power an eighth of the way to the duty of the last lamp period, and the fan duty between its two ends by the smoothed
power.

R93, R94: a gate or lamp-house temperature at its hot threshold makes the band HOT, whatever it was; on entering HOT,
THERMAL_HOT is flagged and a RUNNING or LEARNING show is held. -/
def Obligations.CoolingPeriodBandAndFan : Prop :=
  (∀ (gate house : Code10) (s : State), s.power.owed = false → s.power.state = .on → s.power.fanWatch ≠ .off →
     gate.toNat * 250 / 1023 + 3 ≤ gateWarm s.path.settings → house.toNat * 250 / 1023 + 3 ≤ houseHot s.path.settings →
     0 < fanMin s.path.settings →
     exec (.coolingPeriod gate house) s = .next { s with
       clock := { s.clock with coolingPeriod := some (s.clock.now + 100000) }
       power := { s.power with
         gateTemp := gate.toNat * 250 / 1023, houseTemp := house.toNat * 250 / 1023, band := .normal
         smoothed := stepEighth s.power.smoothed s.power.handed
         fanDuty := fanMin s.path.settings + (fanMax s.path.settings - fanMin s.path.settings) *
           stepEighth s.power.smoothed s.power.handed / 4095 } }) ∧
  (∀ (gate house : Code10) (s : State),
     (gateHot s.path.settings ≤ gate.toNat * 250 / 1023 ∨ houseHot s.path.settings ≤ house.toNat * 250 / 1023) →
     ∃ t, exec (.coolingPeriod gate house) s = .next t ∧ t.power.band = .hot ∧
       (s.power.band ≠ .hot → flagOn t .thermalHot = true ∧
         t.engine.runState = (match s.engine.runState with
           | .running => .held
           | .learning => .held
           | r => r)) ∧
       (s.power.band = .hot → t.engine = s.engine))

/-- R73, R75, R59: the third open reading fails the active socket: the duty is 0, its flag is set, and, from every power
state in which a lamp is LIT (Obligations.StepKeepsDriveSafe), the log holds a LAMP_FAILED entry with the socket and the
kind OPEN, 1; with auto-spare set and the other socket GOOD the carriage starts toward it, otherwise the lamp is FAULT
with NO_LAMP flagged.

R97, R98: the fan watch. The spin-up's end begins the watch with a fresh gap timer; an edge restarts it; its end makes
the watch FAILED, flagged, with FAN_FAILED the last entry of the log, carrying the fan duty; in FAILED an edge at a
driven fan starts or extends a recovery run, a gap ends the run, and a run of 1 s begins the watch afresh. The recovery
gap of 250,001 µs is the model's choice (assumption 21). -/
def Obligations.FilamentAndFanFailures : Prop :=
  (∀ s : State, s.lamp.state = .lit → 2 ≤ s.lamp.openCount →
    ∃ t, exec .openFilament s = .next t ∧ t.lamp.duty = 0 ∧ t.lamp.openCount = 0 ∧
      socketState t.lamp s.lamp.active = .failed ∧ flagOn t (socketFlag s.lamp.active) = true ∧
      socketState t.lamp (otherSocket s.lamp.active) = socketState s.lamp (otherSocket s.lamp.active) ∧
      (s.power.state ≠ .standby →
        { sequence := s.log.next, kind := .lampFailed, source := .lamp, time := s.clock.showClock, cueNo := 0xFFFF,
          slot := slotByte s.transport.slotInGate, detail1 := if s.lamp.active = .primary then 0 else 1,
          detail2 := 1 } ∈ t.log.ring) ∧
      (if optAutoSpare s.path.settings = true ∧ socketState s.lamp (otherSocket s.lamp.active) = .good then
        t.lamp.state = .swapping ∧ t.lamp.active = otherSocket s.lamp.active ∧
          t.lamp.carriageTimer = some (s.clock.now + 2000000)
      else
        t.lamp.state = .fault ∧ t.lamp.active = s.lamp.active ∧ t.lamp.goingOff = none ∧ flagOn t .noLamp = true) ∧
      t.transport.state = s.transport.state ∧ t.path = s.path) ∧
  ((∀ s : State, s.power.fanWatch = .spinUp →
     exec .fanSpinUpEnd s = .next { s with power := { s.power with
       fanWatch := .watching, spinTimer := none, gapTimer := some (s.clock.now + 250000), recovery := none } }) ∧
   (∀ s : State, s.power.fanWatch = .watching →
     exec .fanTachEdge s = .next { s with power := { s.power with gapTimer := some (s.clock.now + 250000) } }) ∧
   (∀ s : State, s.power.fanWatch = .failed → 0 < s.power.fanDuty →
     exec .fanTachEdge s = .next { s with power := { s.power with
       gapTimer := some (s.clock.now + 250001)
       recovery := match s.power.recovery with
         | some due => some due
         | none => some (s.clock.now + 1000000) } }) ∧
   (∀ s : State, s.power.fanWatch = .watching →
     ∃ t, exec .fanGapTimeout s = .next t ∧ t.power.fanWatch = .failed ∧ t.power.fanDuty = s.power.fanDuty ∧
       flagOn t .fanFailed = true ∧ t.log.next = s.log.next + 1 ∧
       t.log.ring.getLast? =
         some { sequence := s.log.next, kind := .fanFailed, source := .cooling, time := s.clock.showClock,
                cueNo := 0xFFFF, slot := slotByte s.transport.slotInGate, detail1 := toWord s.power.fanDuty,
                detail2 := 0 } ∧
       t.lamp = s.lamp ∧ t.engine = s.engine) ∧
   (∀ s : State, s.power.fanWatch = .failed → s.power.recovery.isSome = true →
     exec .fanRecoveryGap s = .next { s with power := { s.power with gapTimer := none, recovery := none } }) ∧
   (∀ s : State, s.power.fanWatch = .failed → s.power.recovery.isSome = true →
     exec .fanRecovered s = .next { s with power := { s.power with
       fanWatch := .watching, spinTimer := none, gapTimer := some (s.clock.now + 250000), recovery := none } }))

/-! ### The deck unit and the cue track -/

/-- R104, R108: at the end of braking the deck leaves BRAKING for what the pending slot holds, and the slot is empty; a
locate that waits is resolved against the counter, and emptied when the tape stands at its target.

R110, R7: tape end in REWIND stops the deck at counter 0 with no log entry; in PLAY, RECORD and FAST_FWD the deck brakes
to STOP, any locate is emptied, TAPE_END is flagged and a RUNNING or LEARNING show is held.

R111, R112: a tape second in PLAY or RECORD adds 1 to a known tape time, saturating, and restarts the timer; an audio
period moves the fader along its ramp and ends it on the target. -/
def Obligations.DeckTimersAct : Prop :=
  (∀ s : State, s.deck.mode = .braking →
     ∃ t, exec .brakeEnd s = .next t ∧ t.deck.pending = none ∧ t.deck.brakeTimer = none ∧ t.deck.counter = s.deck.counter ∧
       (∀ m, m ≠ .braking → s.deck.pending = some (.mode m) → t.deck.mode = m ∧ t.deck.locate = s.deck.locate) ∧
       (∀ target, s.deck.pending = some .locate → s.deck.locate = some target →
         (s.deck.counter < target → t.deck.mode = .fastFwd ∧ t.deck.locate = some target) ∧
         (target < s.deck.counter → t.deck.mode = .rewind ∧ t.deck.locate = some target) ∧
         (s.deck.counter = target → t.deck.mode = .stop ∧ t.deck.locate = none)) ∧
       t = { s with deck := t.deck, decoder := t.decoder, writer := t.writer }) ∧
  ((∀ s : State, s.deck.mode = .rewind →
     ∃ t, exec .tapeEnd s = .next t ∧ t.deck.mode = .stop ∧ t.deck.counter = 0 ∧ t.deck.locate = none ∧
       t.deck.endWatch = none ∧ t.log = s.log ∧ t.engine = s.engine) ∧
   (∀ s : State, s.deck.mode = .play ∨ s.deck.mode = .record ∨ s.deck.mode = .fastFwd →
     ∃ t, exec .tapeEnd s = .next t ∧ t.deck.mode = .braking ∧ t.deck.pending = some (.mode .stop) ∧
       t.deck.brakeForward = true ∧ t.deck.brakeTimer = some (s.clock.now + brakeTime s.path.settings) ∧
       t.deck.locate = none ∧ t.deck.counter = s.deck.counter ∧ flagOn t .tapeEnd = true ∧
       t.engine = { s.engine with runState := match s.engine.runState with
         | .running => .held
         | .learning => .held
         | r => r })) ∧
  ((∀ s : State, s.deck.mode = .play ∨ s.deck.mode = .record →
     exec .tapeSecond s = .next { s with deck := { s.deck with
       tapeTime := s.deck.tapeTime.map (fun x => min 65535 (x + 1))
       second := { left := 1000000, due := some (s.clock.now + 1000000) } } }) ∧
   (∀ s : State, s.deck.ramp.active = true →
     exec .audioPeriod s = .next { s with
       clock := { s.clock with audioPeriod := some (s.clock.now + 10000) }
       deck :=
         if s.deck.ramp.n ≤ s.deck.ramp.k + 1 then
           { s.deck with
             audio := s.deck.ramp.a1, ramp := { s.deck.ramp with k := s.deck.ramp.k + 1, active := false } }
         else
           { s.deck with
             audio :=
               if s.deck.ramp.a0 ≤ s.deck.ramp.a1 then
                 s.deck.ramp.a0 + (s.deck.ramp.a1 - s.deck.ramp.a0) * (s.deck.ramp.k + 1) / s.deck.ramp.n
               else s.deck.ramp.a0 - (s.deck.ramp.a0 - s.deck.ramp.a1) * (s.deck.ramp.k + 1) / s.deck.ramp.n
             ramp := { s.deck.ramp with k := s.deck.ramp.k + 1 } } }))

/-- R107: what a reel pulse does to the tape counter in each mode, saturating at either end; loading or writing the tape
record sets it in whatever mode; the status record shows it at offset 18; power-on reset makes it 0 with the record
UNLOADED, and reset input keeps both. -/
def Obligations.TapeCounterRule : Prop :=
  (∀ s : State, -2147483648 ≤ s.deck.counter → s.deck.counter ≤ 2147483647 →
    ∃ t, exec .reelPulse s = .next t ∧
      t.deck.counter = (match s.deck.mode with
        | .stop => s.deck.counter
        | .rewind => max (-2147483648) (s.deck.counter - 1)
        | .braking =>
          if s.deck.brakeForward then min 2147483647 (s.deck.counter + 1) else max (-2147483648) (s.deck.counter - 1)
        | _ => min 2147483647 (s.deck.counter + 1)) ∧
      (s.deck.mode = .stop → t = s)) ∧
  (∀ (m : Assoc Byte) (s : State), (loadRecord m .tape s).deck.counter = (live32 m 20).toInt ∧
    (applyRecord m .tape s).deck.counter = (live32 m 20).toInt) ∧
  (∀ s : State,
    ((statusBytes s).drop 18).take 4 = clockBytes (BitVec.ofInt 32 s.deck.counter)) ∧
  (∀ (r : ResetSense) (s : State), ∃ t, exec (.powerOnReset r) s = .next t ∧ t.deck.counter = 0 ∧
    t.path.tapeLoaded = false) ∧
  (∀ (r : ResetSense) (s : State), ∃ t, exec (.resetInput r) s = .next t ∧ t.deck.counter = s.deck.counter ∧
    t.path.tapeLoaded = s.path.tapeLoaded)

/-- R117 with Table 5-3: the class of an interval I against C, by comparisons on 4I; and a HALF followed by an interval
of another class is a lone HALF, which is BAD: in DATA it is a frame error, after which the decoder hunts. -/
def Obligations.IntervalClasses : Prop :=
  (∀ c i : Nat, 0 < c →
    (classify c i = .half ↔ c ≤ 4 * i ∧ 4 * i < 3 * c) ∧
    (classify c i = .full ↔ 3 * c ≤ 4 * i ∧ 4 * i < 5 * c) ∧
    (classify c i = .sync ↔ 5 * c ≤ 4 * i ∧ 4 * i < 7 * c) ∧
    (classify c i = .bad ↔ 4 * i < c ∨ 7 * c ≤ 4 * i)) ∧
  (∀ (i h : Nat) (t : Clock32) (s : State), s.decoder.half = some h → classify s.decoder.cell i ≠ .half →
    (dataTake i t s).decoder.state = .hunt ∧ (dataTake i t s).decoder.half = none ∧
      (dataTake i t s).decoder.errors = min 255 (s.decoder.errors + 1)) ∧
  (∀ (i h : Nat) (t : Clock32) (s : State), s.decoder.half = some h → classify s.decoder.cell i = .half →
    dataTake i t s = completeBit true (h + i) t s)

/-- R114, R115: an edge in PLAY goes to the ring with the microsecond counter, and outside PLAY nothing is stored; at a
full ring the oldest is lost, the overflow counted, and the decoder hunts with no reference.

R114, R116, R124: a decode pass takes every edge of the ring; the last becomes the reference; and a pass with no edges
in a frame whose next interval can only be BAD drops the frame, counts it and hunts.

R131, R132: a cell boundary in RECORD completes the cell in progress: its slot is free, the pointer moves on to the next
slot, the sync run counts a SYNC within R130's 0..2 and is 0 after any other symbol, and the next cell begins; outside
RECORD nothing is output. That a third SYNC cell leaves the count at 2 is the model's choice (assumption 12).

R131, R132 with Table 6-1: each transition inverts the cue output. At a boundary, and at the entry to RECORD, the line makes
the start transition of the cell that begins: none for a SYNC cell at a sync run count above 0. As time passes on an empty
queue (assumption 1), the line makes the middle transition once, 1 ms after the cell's start: for ONE, and for SYNC at a
count of 1; a boundary before that makes it first. Leaving RECORD holds the level; stated where no
middle transition falls due at that moment. -/
def Obligations.CueTrackEventsAct : Prop :=
  ((∀ s : State, s.deck.mode = .play → s.decoder.ring.length < 256 →
     exec .cueEdge s = .next { s with decoder := { s.decoder with ring := s.decoder.ring ++ [s.clock.micros] } }) ∧
   (∀ s : State, s.deck.mode = .play → s.decoder.ring.length = 256 →
     ∃ t, exec .cueEdge s = .next t ∧ t.decoder.ring = s.decoder.ring.drop 1 ++ [s.clock.micros] ∧
       t.decoder.overflows = min 255 (s.decoder.overflows + 1) ∧ t.decoder.state = .hunt ∧ t.decoder.reference = none ∧
       t = { s with decoder := t.decoder }) ∧
   (∀ s : State, s.deck.mode ≠ .play → exec .cueEdge s = .next s)) ∧
  ((∀ (es : List Clock32) (e : Clock32) (s : State), s.decoder.state ≠ .off → s.decoder.ring = es ++ [e] →
     ∃ t, exec .decodePass s = .next t ∧ t.decoder.ring = [] ∧ t.decoder.reference = some e ∧
       t.decoder.passTimer = some (s.clock.now + 4000)) ∧
   (∀ (r : Clock32) (s : State), s.decoder.state = .data → s.decoder.ring = [] → s.decoder.reference = some r →
     7 * s.decoder.cell ≤ 4 * (s.clock.micros - r).toNat →
     ∃ t, exec .decodePass s = .next t ∧ t.decoder.state = .hunt ∧ t.decoder.errors = min 255 (s.decoder.errors + 1) ∧
       t.decoder.bits = [] ∧ t.decoder.chars = [] ∧ t.decoder.half = none ∧ t.decoder.reference = some r ∧
       t = { s with decoder := t.decoder })) ∧
  ((∀ s : State, s.deck.mode = .record →
     ∃ t, exec .cellBoundary s = .next t ∧ t.writer.slots = assocErase s.writer.slots s.writer.pointer ∧
       t.writer.pointer = (s.writer.pointer + 1) % 256 ∧ t.writer.sequence = s.writer.sequence ∧
       t.writer.syncRun = (if assocGet s.writer.slots s.writer.pointer = some .sync then min 2 (s.writer.syncRun + 1) else 0) ∧
       t.writer.cellTimer = some (s.clock.now + 2000) ∧ t = { s with writer := t.writer }) ∧
   (∀ s : State, s.deck.mode ≠ .record → exec .cellBoundary s = .next s)) ∧
  (∀ (mid : Bool) (s : State), assocSorted s.writer.slots = true →
     mid = (match assocGet s.writer.slots s.writer.pointer with
       | some .one => true
       | some .sync => decide (s.writer.syncRun = 1)
       | _ => false) →
     (s.deck.mode = .record →
       ∃ t, exec .cellBoundary s = .next t ∧ t.writer.midDone = false ∧ t.writer.cellStart = s.clock.now ∧
         t.writer.level = ((s.writer.level ^^ (!s.writer.midDone && mid)) ^^
           (match assocGet s.writer.slots ((s.writer.pointer + 1) % 256) with
             | some .sync => decide (t.writer.syncRun = 0)
             | _ => true))) ∧
     (s.deck.mode ≠ .record →
       (setDeckMode .record s).writer = { s.writer with
         cellStart := s.clock.now, midDone := false, cellTimer := some (s.clock.now + 2000)
         level := s.writer.level ^^
           (match assocGet s.writer.slots s.writer.pointer with
             | some .sync => decide (s.writer.syncRun = 0)
             | _ => true) }) ∧
     (∀ m, s.deck.mode = .record → m ≠ .record → s.writer.midDone = true ∨ s.clock.now < s.writer.cellStart + 1000 →
       (setDeckMode m s).writer = { s.writer with cellTimer := none }) ∧
     (s.pending = [] → dueCommand s = none → s.deck.mode = .record →
       ∃ t, step s = .next t ∧
         (s.writer.midDone = false → s.writer.cellStart + 1000 ≤ s.clock.now + 1 →
           t.writer = { s.writer with level := s.writer.level ^^ mid, midDone := true }) ∧
         (s.writer.midDone = true ∨ s.clock.now + 1 < s.writer.cellStart + 1000 → t.writer = s.writer)))

/-- R121, R122, R123, R134 with Tables 5-4 and 11-10: the characters the writer lays for a frame, taken bit by bit in
DATA from an empty assembly, complete that frame: the decoder is in TRAILER and, where it has no last accepted frame to
compare with, it accepts kind, sequence and data as they were written. -/
def Obligations.WrittenFrameIsAccepted : Prop :=
  ∀ (kind sequence : Nat) (data : Word) (t : Clock32) (s : State), 1 ≤ kind → kind ≤ 6 → sequence < 4 →
    (kind = 3 → data.toNat ≤ 4095) → s.decoder.bits = [] → s.decoder.chars = [] → s.decoder.accepted = none →
    (((frameChars kind sequence data).flatMap charCells).foldl
      (fun x cell => takeBit (decide (cell = .one)) t x) s).decoder =
      { s.decoder with
        state := .trailer, half := none, bits := [], chars := []
        accepted := some
          { kind := kind, sequence := sequence, data := if dataCount kind = some 2 then wordBytes data else [],
            time := t } }

/-! ### The line unit of a lead -/

/-- R146, R147, R148: the discharge time's end enters DETECT with a count of 0; the retry timer's end enters POWERING
with the settling timer; the quiet timer's end clears the overcurrent count.

R146: a reading below 320 in DETECT counts a detection, and the fourth in succession enters POWERING; any other reading
sets the count to 0.

R147, R155, R158: the settling timer's end starts the lead's use of the line: with no broadcast waiting and no follower
configured, the handset is polled first, and the no-answer timer and the poll period run.

That the first detect period ends 10 ms after the entry to DETECT is the model's choice (assumption 8). -/
def Obligations.LineComesUp : Prop :=
  ((∀ s : State, s.line.state = .off →
     exec .dischargeEnd s = .next { s with line := { s.line with
       state := .detect, detectCount := 0, detectPeriod := some (s.clock.now + 10000), discharge := none } }) ∧
   (∀ s : State, s.line.state = .retryWait →
     exec .retryTimerEnd s = .next { s with line := { s.line with
       state := .powering, settle := some (s.clock.now + 50000), detectPeriod := none, retry := none, detectCount := 0 } }) ∧
   (∀ s : State, s.line.quiet.isSome = true →
     exec .quietTimerEnd s = .next { s with line := { s.line with overcurrents := 0, quiet := none } })) ∧
  ((∀ (v : Code10) (s : State), s.line.state = .detect → v.toNat < 320 → s.line.detectCount < 3 →
     exec (.detectPeriod v) s = .next { s with line := { s.line with
       detectCount := s.line.detectCount + 1, detectPeriod := some (s.clock.now + 10000) } }) ∧
   (∀ (v : Code10) (s : State), s.line.state = .detect → 320 ≤ v.toNat →
     exec (.detectPeriod v) s = .next { s with line := { s.line with
       detectCount := 0, detectPeriod := some (s.clock.now + 10000) } }) ∧
   (∀ (c : Instr) (v : Code10) (s : State), s.line.state = .detect → s.line.detectCount = 3 → v.toNat < 320 →
     (c = .detectPeriod v ∨ c = .lineDetected) →
     exec c s = .next { s with line := { s.line with
       state := .powering, settle := some (s.clock.now + 50000), detectPeriod := none, retry := none, detectCount := 0 } })) ∧
  (∀ s : State, s.line.state = .powering → s.line.queue = [] → followerCount s.path.settings = 0 →
     s.line.holdOff = false →
     exec .settlingEnd s = .next { s with line := { s.line with
       state := .sending, settle := none, noAnswer := some (s.clock.now + 10000000)
       pollPeriod := some (s.clock.now + 50000), syncDue := false, pollList := [0], current := some (.poll 0)
       bit := bitTime s.path.settings, frameEnd := some (s.clock.now + 26 * bitTime s.path.settings)
       window := none, badFrame := false, lineOut := [0x01, 0xFF] } })

/-- R154, R159: after a POLL the reply window of 12 bit times opens, and a low level in it begins the reply.

R155, R156, R157: the sent broadcast leaves its queue and the sent SYNC is no longer due, and the lead takes the next
item waiting.

R157, R158: the sync timer makes a SYNC due while followers are configured; a poll period fills an empty list with the
handset and the next follower round the count. Stated in SENDING, where the next choice waits for the frame's end. -/
def Obligations.LeadFramesFollowOn : Prop :=
  ((∀ (n : Nat) (s : State), s.line.state = .sending → s.line.current = some (.poll n) →
     exec .leadFrameSent s = .next { s with line := { s.line with
       state := .awaiting, frameEnd := none, window := some (s.clock.now + 12 * s.line.bit) } }) ∧
   (∀ s : State, s.line.state = .awaiting →
     exec .replyStart s = .next { s with line := { s.line with
       state := .receiving, window := none, badFrame := false } })) ∧
  (∀ s : State, s.line.state = .sending → s.line.holdOff = false →
     (∀ m rest, s.line.current = some m → (∀ n, m ≠ .poll n) → (∀ x, m ≠ .sync x) → s.line.queue = m :: rest →
       ∃ t, exec .leadFrameSent s = .next t ∧ t.line.queue = rest ∧
         (∀ m' rest', rest = m' :: rest' → t.line.state = .sending ∧ t.line.current = some m') ∧
         (rest = [] → s.line.syncDue = false → s.line.pollList = [] → t.line.state = .idle ∧ t.line.current = none)) ∧
     (∀ x, s.line.current = some (.sync x) → s.line.queue = [] →
       ∃ t, exec .leadFrameSent s = .next t ∧ t.line.syncDue = false ∧
         (∀ n ns, s.line.pollList = n :: ns → t.line.state = .sending ∧ t.line.current = some (.poll n)))) ∧
  ((∀ s : State, s.line.state = .sending → s.line.syncTimer.isSome = true →
     exec .syncTimer s = .next { s with line := { s.line with
       syncTimer := none, syncDue := s.line.syncDue || decide (1 ≤ followerCount s.path.settings) } }) ∧
   (∀ s : State, s.line.state = .sending → s.line.pollPeriod.isSome = true → s.line.pollList = [] →
     1 ≤ followerCount s.path.settings →
     exec .pollPeriod s = .next { s with line := { s.line with
       pollPeriod := some (s.clock.now + 50000)
       pollList := [0, if followerCount s.path.settings ≤ s.line.robin then 1 else s.line.robin + 1]
       robin := if followerCount s.path.settings ≤ s.line.robin then 1 else s.line.robin + 1 } }))

/-- R148, R151: the first and second overcurrent enter RETRY_WAIT, with the broadcasts and the four stations kept; the
third enters LINE_FAULT, flagged, with no broadcast left and every station ABSENT.

R150, R151: the no-answer timer's end takes a powered line back to DETECT with its broadcasts dropped and its stations
ABSENT. That the first detect period ends 10 ms after the entry is the model's choice (assumption 8).

R150, R152, R154, R160: a follower's good reply to its POLL makes it PRESENT with no misses and keeps its three data
bytes; a reply whose bytes do not sum to 0 is a miss. Either way its poll is done, and with nothing else waiting the
lead is idle.

R154, R155, R160: a window that closes on silence is a miss of the station polled, its poll is done, and the lead makes
its next choice at once: the poll that waits, or IDLE with nothing waiting. With a low level just begun as the window
closes, a case that the operand of the command gives (assumption 28), the lead waits in IDLE until the line has been high
for 4b, and then makes its next choice. -/
def Obligations.LineFailuresAndReplies : Prop :=
  ((∀ s : State, s.line.state.powered = true →
     ∃ t, exec .lineOvercurrent s = .next t ∧ t.line.overcurrents = s.line.overcurrents + 1 ∧
       t.line.quiet = some (s.clock.now + 10000000) ∧ t.line.pollList = [] ∧ t.line.pollPeriod = none ∧
       t.line.noAnswer = none ∧ lineSwitch t = false ∧
       (s.line.overcurrents < 2 → t.line.state = .retryWait ∧ t.line.retry = some (s.clock.now + 1000000) ∧
         t.line.queue = s.line.queue ∧ t.line.handset = s.line.handset ∧ t.line.follower1 = s.line.follower1 ∧
         t.line.follower2 = s.line.follower2 ∧ t.line.follower3 = s.line.follower3) ∧
       (2 ≤ s.line.overcurrents → t.line.state = .lineFault ∧ t.line.queue = [] ∧ flagOn t .lineFault = true ∧
         t.line.handset.present = false ∧ t.line.follower1.present = false ∧ t.line.follower2.present = false ∧
         t.line.follower3.present = false)) ∧
   (∀ s : State, s.line.state.powered = true → s.line.noAnswer.isSome = true →
     ∃ t, exec .noAnswerTimeout s = .next t ∧ t.line.state = .detect ∧ t.line.detectCount = 0 ∧
       t.line.detectPeriod = some (s.clock.now + 10000) ∧ t.line.queue = [] ∧ t.line.handset.present = false ∧
       t.line.follower1.present = false ∧ t.line.follower2.present = false ∧ t.line.follower3.present = false ∧
       t.line.noAnswer = none)) ∧
  (∀ (n : Nat) (d0 d1 d2 chk : Byte) (s : State), 1 ≤ n → n ≤ 3 → s.line.state = .receiving → s.line.badFrame = false →
     s.line.current = some (.poll n) → s.line.queue = [] → s.line.syncDue = false → s.line.pollList = [n] →
     (BitVec.ofNat 8 (32 * n + 16) + d0 + d1 + d2 + chk = 0 →
       ∃ t, exec (.replyReceived (.bytes [BitVec.ofNat 8 (32 * n + 16), d0, d1, d2, chk])) s = .next t ∧
         stationOf t.line n = { present := true, misses := 0, last := some [d0, d1, d2] } ∧
         t.line.state = .idle ∧ t.line.pollList = [] ∧ t.line.noAnswer = some (s.clock.now + 10000000) ∧
         t = { s with line := t.line }) ∧
     (BitVec.ofNat 8 (32 * n + 16) + d0 + d1 + d2 + chk ≠ 0 →
       ∃ t, exec (.replyReceived (.bytes [BitVec.ofNat 8 (32 * n + 16), d0, d1, d2, chk])) s = .next t ∧
         (stationOf t.line n).misses = min 255 ((stationOf s.line n).misses + 1) ∧
         ((stationOf t.line n).present = true ↔
           (stationOf s.line n).present = true ∧ (stationOf s.line n).misses < 2) ∧
         t.line.state = .idle ∧ t.line.pollList = [] ∧ t.line.noAnswer = s.line.noAnswer)) ∧
  ((∀ (n : Nat) (rest : List Nat) (s : State), 1 ≤ n → n ≤ 3 → s.line.state = .awaiting →
     s.line.current = some (.poll n) → s.line.queue = [] → s.line.syncDue = false → s.line.pollList = n :: rest →
     ∃ t, exec (.replyWindowTimeout false) s = .next t ∧
       (stationOf t.line n).misses = min 255 ((stationOf s.line n).misses + 1) ∧
       ((stationOf t.line n).present = true ↔
         (stationOf s.line n).present = true ∧ (stationOf s.line n).misses < 2) ∧
       t.line.holdOff = false ∧ t.line.window = none ∧ t.line.pollList = rest ∧
       (rest = [] → t.line.state = .idle ∧ t.line.current = none) ∧
       (∀ m ms, rest = m :: ms → t.line.state = .sending ∧ t.line.current = some (.poll m))) ∧
   (∀ (n : Nat) (s : State), 1 ≤ n → n ≤ 3 → s.line.state = .awaiting → s.line.current = some (.poll n) →
     ∃ t, exec (.replyWindowTimeout true) s = .next t ∧
       (stationOf t.line n).misses = min 255 ((stationOf s.line n).misses + 1) ∧
       t.line.state = .idle ∧ t.line.holdOff = true ∧ t.line.window = none ∧ t.line.pollList = s.line.pollList.drop 1) ∧
   (∀ (n : Nat) (ns : List Nat) (s : State), s.line.state = .idle → s.line.holdOff = true → s.line.queue = [] →
     s.line.syncDue = false → s.line.pollList = n :: ns →
     ∃ t, exec .receiveLineQuiet s = .next t ∧ t.line.holdOff = false ∧ t.line.state = .sending ∧
       t.line.current = some (.poll n) ∧ t = { s with line := t.line }))

/-- R152, R153 with Tables 7-2 and 11-11: what a lead puts on the line is judged by a receiver as the frame it is: free
of error, with its address, its kind and its data. -/
def Obligations.LeadFramesAreJudgedGood : Prop :=
  ∀ m : LineMsg, (∀ n, m = .poll n → n ≤ 3) → judge (.bytes (lineBytes m)) = .good m.address m.code m.data

/-! ### A follower's line unit -/

/-- R163, R212: a POLL of the follower's own address puts a REPLY on the line: its header, the run state, the slot in
gate, the fault summary, and the byte that makes them sum to 0; a POLL of another address changes nothing.

R164: a good SYNC sets the offset to the lead's time less the part's own show clock at the frame's break, and makes the sync state HELD for 3 s; with no
offset before, or a step of at most 50 ms, nothing is logged.

R166, R9, R162: a good broadcast frame becomes a LINK cue of its kind at the queue's tail. With the sync state HELD its
scheduled start is the moment, within 32,768 ms of now either way, at which the lead's clock shows the frame's T16;
otherwise it starts on arrival. In STOPPED a CUE, HOLD or END frame is discarded without a log entry; a CUE number above
4095 is a frame error.

R162: an errored frame adds 1 to the line frame error count, saturating at 255, and changes nothing else. -/
def Obligations.FollowerTakesGoodFrames : Prop :=
  (∀ (a : BitVec 3) (s : State), s.line.state = .listening →
     (a.toNat = ownAddress s.path.settings →
       ∃ chk, exec (.followerPoll a) s = .next { s with line := { s.line with
           lineOut := [toByte (32 * a.toNat + 16), toByte s.engine.runState.code, slotByte s.transport.slotInGate,
             toByte (faultSummary s), chk] } } ∧
         toByte (32 * a.toNat + 16) + toByte s.engine.runState.code + slotByte s.transport.slotInGate +
           toByte (faultSummary s) + chk = 0) ∧
     (a.toNat ≠ ownAddress s.path.settings → exec (.followerPoll a) s = .next s)) ∧
  (∀ (lead here : Clock32) (age : Nat) (s : State), s.line.state = .listening →
     here = s.clock.showClock - BitVec.ofNat 32 ((age + 999 - s.clock.subMs) / 1000) →
     (∀ o, s.line.offset = some o → ((lead - here) - o).toInt ≤ 50 ∧ -50 ≤ ((lead - here) - o).toInt) →
     exec (.followerSync lead age) s = .next { s with line := { s.line with
       offset := some (lead - here), syncHeld := true, syncWatch := some (s.clock.now + 3000000) } }) ∧
  ((∀ (f : LinkFrame) (k : CueKind) (t16 : Word) (s : State), s.line.state = .listening → s.engine.queue.length < 4 →
     ((f = .advance t16 ∧ k = .advance) ∨ (f = .reverse t16 ∧ k = .reverse) ∨
       (s.engine.runState ≠ .stopped ∧
         ((f = .hold t16 ∧ k = .hold) ∨ (f = .endShow t16 ∧ k = .endShow) ∨
           ∃ n, n.toNat ≤ 4095 ∧ f = .cue n t16 ∧ k = .numbered n))) →
     ∃ start, exec (.followerBroadcastCue f) s = .next { s with engine := { s.engine with
         queue := s.engine.queue ++
           [{ source := .link, kind := k, arrival := s.clock.showClock, start := some start }] } } ∧
       (∀ o, s.line.syncHeld = true → s.line.offset = some o →
         (start + o).setWidth 16 = t16 ∧ -32768 ≤ (start - s.clock.showClock).toInt ∧
           (start - s.clock.showClock).toInt < 32768) ∧
       (s.line.syncHeld = false → start = s.clock.showClock)) ∧
   (∀ (f : LinkFrame) (t16 : Word) (s : State), s.line.state = .listening → s.engine.runState = .stopped →
     (f = .hold t16 ∨ f = .endShow t16 ∨ ∃ n, n.toNat ≤ 4095 ∧ f = .cue n t16) →
     exec (.followerBroadcastCue f) s = .next s) ∧
   (∀ (n t16 : Word) (s : State), s.line.state = .listening → 4095 < n.toNat →
     exec (.followerBroadcastCue (.cue n t16)) s =
       .next { s with line := { s.line with errors := min 255 (s.line.errors + 1) } })) ∧
  (∀ s : State, s.line.state = .listening →
     exec .lineFrameError s = .next { s with line := { s.line with errors := min 255 (s.line.errors + 1) } })

/-- R166, R6, R5: a STOP frame stops the show in every run state: no cue is queued, and the executing cue goes the way
of its phase; a cue in FADING_IN whose cycle is in flight stays, marked stopping, and a further STOP retargets the lamp's
ramp again; a RESUME frame takes HELD to RUNNING with the deck asked to play, and changes nothing in any other run
state. -/
def Obligations.LinkStopAndResumeFrames : Prop :=
  (∀ s : State, s.line.state = .listening → s.line.role = .follower →
    ∃ t, exec .linkStopFrame s = .next t ∧ t.engine.runState = .stopped ∧ t.engine.queue = [] ∧
      t.engine.pointer = s.engine.pointer ∧ t.transport = s.transport ∧ t.line = s.line ∧
      (∀ e, s.engine.cue = some e → e.stopping = false → e.phase = .waiting → t.engine.cue = none ∧ t.lamp = s.lamp) ∧
      (∀ e, s.engine.cue = some e → e.stopping = false → e.phase = .fadingOut → s.lamp.goingOff = none →
        t.engine.cue = none ∧ t.lamp.ramp.l1 = 0 ∧ t.lamp.ramp.n = stopFade s.path.settings) ∧
      (∀ e, s.engine.cue = some e → e.stopping = false → e.phase = .changing →
        t.engine.cue = some { e with stopping := true } ∧ t.lamp = s.lamp) ∧
      (∀ e, s.engine.cue = some e → e.phase = .fadingIn → s.lamp.goingOff = none →
        t.lamp.ramp.l1 = 0 ∧ t.lamp.ramp.n = stopFade s.path.settings ∧ t.lamp.ramp.active = true ∧
        (e.stopping = false → e.cycle = false → t.engine.cue = none) ∧
        (e.stopping = false → e.cycle = true →
          ∃ e', t.engine.cue = some e' ∧ e'.stopping = true ∧ e'.cycle = true ∧ e'.phase = .fadingIn ∧
            e'.plan = e.plan) ∧
        (e.stopping = true → t.engine.cue = some e))) ∧
  (∀ s : State, s.line.state = .listening → s.line.role = .follower → s.engine.runState = .held → s.deck.mode = .stop →
    ∃ t, exec .linkResumeFrame s = .next t ∧ t.engine = { s.engine with runState := .running } ∧ t.deck.mode = .play ∧
      t.decoder.state = .hunt ∧ t.lamp = s.lamp ∧ t.transport = s.transport ∧ t.line = s.line) ∧
  (∀ s : State, s.line.state = .listening → s.engine.runState ≠ .held → exec .linkResumeFrame s = .next s)

/-- R165: the sync timer runs 3 s from each good SYNC. When it expires with the sync state HELD, the state is LOST and
SYNC_LOST is posted with 3 and the line frame error count; the offset stays, and the timer runs no more. While LOST a
broadcast cue starts on its arrival, and the next good SYNC makes the state HELD. -/
def Obligations.SyncTimerLosesSync : Prop :=
  (∀ (lead : Clock32) (age : Nat) (s : State), s.line.state = .listening →
    ∃ t, exec (.followerSync lead age) s = .next t ∧ t.line.syncHeld = true ∧
      t.line.syncWatch = some (s.clock.now + 3000000)) ∧
  (∀ s : State, s.line.syncWatch.isSome = true → s.line.syncHeld = true →
    ∃ t, exec .syncLost s = .next t ∧ t.line = { s.line with syncHeld := false, syncWatch := none } ∧
      t = { s with line := t.line, log := t.log } ∧ t.log.next = s.log.next + 1 ∧
      t.log.ring.getLast? =
        some { sequence := s.log.next, kind := .syncLost, source := .line, time := s.clock.showClock, cueNo := 0xFFFF,
               slot := slotByte s.transport.slotInGate, detail1 := 3, detail2 := toWord s.line.errors }) ∧
  (∀ (t16 : Word) (s : State), s.line.syncHeld = false → localStart t16 s = s.clock.showClock)

/-! ### The handset logic -/

/-- R173, R174, R176: the Err timer's end takes "Err" away; the entry timer's end empties the entry; and the hold
timer's end makes the auto-repeat REPEATING, which posts an ADVANCE at once where the transport is READY.

R168, R174: a report of a digit key with a new press count within 1 s of the last report appends the digit to the entry,
of which the last three digits are kept; with the count unchanged, or after more than 1 s, it counts no press and leaves
the entry.

R168, R169: a good reply of station 0 is a report, whose count and time are kept. FOCUS_IN or FOCUS_OUT held runs the focus
motor its way (R54, R55) in ON, with no FOCUS_HOLD window active and the allowance not spent, a new hold with 4 s of it;
otherwise, and with neither held, the motor stops. Uncounted, a report reaches nothing else.

R170 to R176: a counted press ends "Err" and starts the entry timer afresh. ADVANCE and REVERSE post their cue and GO the
entry's slot, which empties it; a full queue, no entry or a slot above S shows "Err". CLEAR empties the entry and clears a
jam. RUN_HOLD starts, holds or resumes the show and shows "Err" in LEARNING. LAMP requests LAMP_ON of a lamp that is OFF,
toggles economy in LIT and SWAPPING, and shows "Err" in FAULT and where LAMP_ON is refused. ADVANCE held starts the
auto-repeat timing. -/
def Obligations.HandsetTimersAndDigits : Prop :=
  ((∀ s : State, exec .errTimeout s = .next { s with handset := { s.handset with errTimer := none } }) ∧
   (∀ s : State, s.handset.entryTimer.isSome = true →
     exec .entryTimeout s = .next { s with handset := { s.handset with entry := [], entryTimer := none } }) ∧
   (∀ s : State, s.handset.autoRepeat = .timing → s.transport.state ≠ .ready →
     exec .autoRepeatHoldEnd s = .next { s with handset := { s.handset with
       autoRepeat := .repeating, holdTimer := none } }) ∧
   (∀ s : State, s.handset.autoRepeat = .timing → s.transport.state = .ready → s.engine.queue.length < 4 →
     exec .autoRepeatHoldEnd s = .next { s with
       handset := { s.handset with autoRepeat := .repeating, holdTimer := none }
       engine := { s.engine with
         queue := s.engine.queue ++
           [{ source := .handset, kind := .advance, arrival := s.clock.showClock, start := none }] } })) ∧
  (∀ (code second : Byte) (d last : Nat) (t : Clock32) (s : State), code.toNat = 10 + d → d ≤ 9 →
     s.handset.lastCount = some last → s.handset.lastReport = some t → s.handset.entry.length ≤ 3 →
     (replyCount second ≠ last → elapsed s.clock.showClock t ≤ 1000 →
       (handsetReport (some (code, second)) s).handset.entry =
         (if s.handset.entry.length = 3 then s.handset.entry.drop 1 else s.handset.entry) ++ [d]) ∧
     (replyCount second = last ∨ 1000 < elapsed s.clock.showClock t →
       (handsetReport (some (code, second)) s).handset.entry = s.handset.entry)) ∧
  (∀ (code second chk : Byte) (last : Nat) (tm : Clock32) (s : State),
     s.line.state = .receiving → s.line.badFrame = false → s.line.current = some (.poll 0) →
     byteSum [0x10, code, second, chk] = 0 → s.handset.lastCount = some last → s.handset.lastReport = some tm →
     ∃ t, exec (.replyReceived (.bytes [0x10, code, second, chk])) s = .next t ∧
       t.handset.lastCount = some (replyCount second) ∧ t.handset.lastReport = some s.clock.showClock ∧
       ((code.toNat ≠ 3 ∧ code.toNat ≠ 4) ∨ replyHeld second = false →
         t.transport.focus = .stopped ∧ t.transport.focusKey = none) ∧
       (∀ d : Dir, replyHeld second = true → (code.toNat = 3 ∧ d = .forward) ∨ (code.toNat = 4 ∧ d = .reverse) →
         (s.power.state = .on → focusInhibited s.transport = false → s.transport.focusKey ≠ some d →
           t.transport.focus = focusMotion d ∧ t.transport.focusKey = some d ∧
           t.transport.focusAllowance.due = some (s.clock.now + 4000000)) ∧
         (s.power.state ≠ .on ∨ focusInhibited s.transport = true ∨
             (s.transport.focusKey = some d ∧ s.transport.focusAllowance = { left := 0, due := none }) →
           t.transport.focus = .stopped)) ∧
       (replyCount second = last ∨ 1000 < elapsed s.clock.showClock tm →
         t.engine = s.engine ∧ t.lamp = s.lamp ∧ t.deck = s.deck ∧ t.handset.entry = s.handset.entry ∧
         t.handset.errTimer = s.handset.errTimer ∧ t.handset.economy = s.handset.economy ∧
         t.handset.autoRepeat = (if code.toNat = 1 ∧ replyHeld second = true then s.handset.autoRepeat else .none)) ∧
       (replyCount second ≠ last → elapsed s.clock.showClock tm ≤ 1000 →
         ((keyOf code.toNat).isSome = true →
           t.handset.entryTimer = if t.handset.entry = [] then none else some (s.clock.now + 5000000)) ∧
         (∀ k : CueKind, (code.toNat = 1 ∧ k = .advance) ∨ (code.toNat = 2 ∧ k = .reverse) ∨
             (code.toNat = 5 ∧ s.handset.entry ≠ [] ∧ entryValue s.handset.entry ≤ traySize s.path.settings ∧
               k = .goto (entryValue s.handset.entry)) →
           (s.engine.queue.length < 4 → t.handset.errTimer = none ∧ t.engine = { s.engine with
             queue := s.engine.queue ++
               [{ source := .handset, kind := k, arrival := s.clock.showClock, start := none }] }) ∧
           (4 ≤ s.engine.queue.length → t.engine = s.engine ∧ t.handset.errTimer = some (s.clock.now + 2000000))) ∧
         (code.toNat = 5 → t.handset.entry = [] ∧
           (s.handset.entry = [] ∨ traySize s.path.settings < entryValue s.handset.entry →
             t.engine = s.engine ∧ t.handset.errTimer = some (s.clock.now + 2000000))) ∧
         (code.toNat = 6 → t.handset.entry = [] ∧ t.handset.errTimer = none ∧
           t.transport.state = (if s.transport.state = .jammed then .unhomed else s.transport.state)) ∧
         (code.toNat = 7 →
           t.engine = { s.engine with
             runState := match s.engine.runState with
               | .stopped => .running
               | .running => .held
               | .held => .running
               | .learning => .learning } ∧
           t.handset.errTimer = (if s.engine.runState = .learning then some (s.clock.now + 2000000) else none)) ∧
         (code.toNat = 8 →
           (s.lamp.state = .off → t.lamp = (lampOn s).1.lamp ∧ t.handset.economy = s.handset.economy ∧
             t.handset.errTimer = (if (lampOn s).2 = true then none else some (s.clock.now + 2000000))) ∧
           (s.lamp.state = .lit ∨ s.lamp.state = .swapping → t.lamp = s.lamp ∧ t.handset.errTimer = none ∧
             t.handset.economy = !s.handset.economy) ∧
           (s.lamp.state = .fault → t.lamp = s.lamp ∧ t.handset.economy = s.handset.economy ∧
             t.handset.errTimer = some (s.clock.now + 2000000))) ∧
         t.handset.autoRepeat = (if code.toNat = 1 ∧ replyHeld second = true then .timing else .none) ∧
         t.handset.holdTimer =
           (if code.toNat = 1 ∧ replyHeld second = true then some (s.clock.now + 1000000) else none)))

/-! ### The memory path -/

/-- R181, R182, R192: the commands that open a transaction between transactions. A READ is answered from a snapshot
taken now; a WRITE is governed by the latch shadow as it stands; SET LATCH and CLEAR LATCH pass, and their end sets and
clears the shadow; READ STATUS and an unrecognised byte pass. The end of a transaction of which the path takes no notice
closes it and does nothing else. A byte of Table 9-1 given as an unrecognised one makes the transaction the one it names,
SET LATCH for 0x06: that reading of the row is the model's choice (assumption 18).

R181 with Table 9-1: the command that a transaction's first bytes spell, the address high byte first; a READ or WRITE whose
select rises before its address is complete takes no snapshot and opens nothing, and the WRITE clears the shadow. -/
def Obligations.LinkCommandsOpenTransactions : Prop :=
  ((∀ a : Word,
      linkStart [0x03, (a >>> 8).setWidth 8, a.setWidth 8] = some (.read (.full a)) ∧
      linkStart [0x02, (a >>> 8).setWidth 8, a.setWidth 8] = some (.write (.full a))) ∧
   (∀ hi : Byte, linkStart [0x03, hi] = some (.read (.high hi)) ∧ linkStart [0x02, hi] = some (.write (.high hi))) ∧
   linkStart [0x03] = some (.read .absent) ∧ linkStart [0x02] = some (.write .absent) ∧
   (∀ rest : List Byte, linkStart (0x06 :: rest) = some .setLatch ∧ linkStart (0x04 :: rest) = some .clearLatch ∧
      linkStart (0x05 :: rest) = some .readStatus) ∧
   (∀ (b : Byte) (rest : List Byte), recognisedCommand b = false →
      linkStart (b :: rest) = some (.foreignTransaction b)) ∧
   (∀ (a : AddrPhase) (s : State), s.path.txn = none → a = .absent ∨ (∃ hi, a = .high hi) →
      ∃ t u, exec (.read a) s = .next t ∧ t.path.txn = none ∧ t.path.latch = s.path.latch ∧ t = { s with path := t.path } ∧
        exec (.write a) s = .next u ∧ u.path.txn = none ∧ u.path.latch = false ∧ u = { s with path := u.path })) ∧
  (∀ (x : Txn) (s : State), s.path.txn = some x → x.kind = .passing →
    exec .transactionEnd s = .next { s with path := { s.path with txn := none, legOpen := false } }) ∧
  ∀ s : State, s.path.txn = none →
    (∀ a : Word, ∃ t x, exec (.read (.full a)) s = .next t ∧ t.path.txn = some x ∧ x.kind = .read (snapshot s) ∧
      x.addr = a ∧ t.path.legOpen = true ∧ t.path.legBytes = [(0x03 : Byte), (a >>> 8).setWidth 8, a.setWidth 8] ∧
      t.path.latch = s.path.latch ∧ t = { s with path := t.path }) ∧
    (∀ a : Word, ∃ t x, exec (.write (.full a)) s = .next t ∧ t.path.txn = some x ∧ x.kind = .write s.path.latch ∧
      x.addr = a ∧ t.path.legOpen = true ∧ t.path.legBytes = [(0x02 : Byte), (a >>> 8).setWidth 8, a.setWidth 8] ∧
      t.path.latch = s.path.latch ∧ t = { s with path := t.path }) ∧
    (∃ t, exec .setLatch s = .next t ∧ t.path.latch = s.path.latch ∧ t.path.legBytes = [0x06] ∧
      t = { s with path := t.path } ∧
      exec .transactionEnd t = .next { t with path := { t.path with txn := none, legOpen := false, latch := true } }) ∧
    (∃ t, exec .clearLatch s = .next t ∧ t.path.latch = s.path.latch ∧ t.path.legBytes = [0x04] ∧
      t = { s with path := t.path } ∧
      exec .transactionEnd t = .next { t with path := { t.path with txn := none, legOpen := false, latch := false } }) ∧
    (∃ t, exec .readStatus s = .next t ∧ t.path.latch = s.path.latch ∧ t.path.legBytes = [0x05] ∧
      t = { s with path := t.path }) ∧
    (∀ b : Byte, recognisedCommand b = false →
      ∃ t x, exec (.foreignTransaction b) s = .next t ∧ t.path.txn = some x ∧ x.kind = .passing ∧
        t.path.latch = s.path.latch ∧ t.path.legBytes = [b] ∧ t = { s with path := t.path }) ∧
    exec (.foreignTransaction 0x06) s = exec .setLatch s

/-- R183, R193, R192: a data byte of a READ; the address goes on by one, 0xFFFF to 0. In PASS the memory's byte goes to the
host.

R184, R187, R188: in MIRROR it goes to the host and is captured, with its flag, at its offset alone.

R194: in LIVE it goes to the host and is noted for its record, unless the record was LOADED in the snapshot, whose value
then goes in its place.

R198, R199, R211: in WINDOW the memory's byte never shows. The status record is the snapshot's; the control record is the
last code and result and zeros; byte o of the log view is byte o mod 16 of the snapshot's entry o div 16, laid out as
Table 11-8 gives, or 0xFF beyond the entries held, and is noted as read; the spare window is zeros. -/
def Obligations.ReadBytesByClass : Prop :=
  ∀ (p : Snapshot) (x : Txn) (m : Byte) (s : State), s.path.txn = some x → x.kind = .read p →
    (∀ o, addrClass s.path.map x.addr.toNat = .status o →
      exec (.readDataByte m) s = .next { s with path := { s.path with
        txn := some { x with addr := x.addr + 1 }, upOut := some (p.status[o]?.getD 0) } }) ∧
    (addrClass s.path.map x.addr.toNat = .pass →
      exec (.readDataByte m) s = .next { s with path := { s.path with
        txn := some { x with addr := x.addr + 1 }, upOut := some m } }) ∧
    (addrClass s.path.map x.addr.toNat = .spareWindow →
      exec (.readDataByte m) s = .next { s with path := { s.path with
        txn := some { x with addr := x.addr + 1 }, upOut := some 0 } }) ∧
    (∀ o, addrClass s.path.map x.addr.toNat = .header o → captureWf s.path.header = true →
      ∃ c, capturesAt s.path.header c o m ∧ exec (.readDataByte m) s = .next { s with path := { s.path with
        header := c, txn := some { x with addr := x.addr + 1, headerTouched := true }, upOut := some m } }) ∧
    (∀ o, addrClass s.path.map x.addr.toNat = .program o → captureWf s.path.program = true →
      ∃ c, capturesAt s.path.program c o m ∧ exec (.readDataByte m) s = .next { s with path := { s.path with
        program := c, txn := some { x with addr := x.addr + 1 }, upOut := some m } }) ∧
    (∀ o, addrClass s.path.map x.addr.toNat = .settings o → captureWf s.path.mirror = true →
      ∃ c seen, capturesAt s.path.mirror c o m ∧
        (∀ k, assocHas seen k = (decide (k = o) || assocHas x.settingsSeen k)) ∧
        exec (.readDataByte m) s = .next { s with path := { s.path with
          mirror := c, txn := some { x with addr := x.addr + 1, settingsSeen := seen }, upOut := some m } }) ∧
    (∀ o, addrClass s.path.map x.addr.toNat = .live o →
      ((if o < 8 then p.showLoaded else if o < 20 then p.usageLoaded else p.tapeLoaded) = true →
        exec (.readDataByte m) s = .next { s with path := { s.path with
          txn := some { x with addr := x.addr + 1 }, upOut := some (p.live[o]?.getD 0) } }) ∧
      ((if o < 8 then p.showLoaded else if o < 20 then p.usageLoaded else p.tapeLoaded) = false →
        ∃ noted, (∀ k, assocGet noted k = if k = o then some m else assocGet x.live k) ∧
          exec (.readDataByte m) s = .next { s with path := { s.path with
            txn := some { x with addr := x.addr + 1, live := noted }, upOut := some m } })) ∧
    (∀ o, addrClass s.path.map x.addr.toNat = .control o →
      exec (.readDataByte m) s = .next { s with path := { s.path with
        txn := some { x with addr := x.addr + 1 }
        upOut := some (if o = 0 then p.code else if o = 1 then p.result else 0) } }) ∧
    (∀ o, addrClass s.path.map x.addr.toNat = .logView o →
      ∃ noted, (∀ k, assocHas noted k = (decide (k = o) || assocHas x.logRead k)) ∧
        exec (.readDataByte m) s = .next { s with path := { s.path with
          txn := some { x with addr := x.addr + 1, logRead := noted }
          upOut := match p.log[o / 16]? with
            | none => some 0xFF
            | some e =>
              [e.sequence.setWidth 8, (e.sequence >>> 8).setWidth 8, toByte e.kind.code, toByte e.source.code,
               e.time.setWidth 8, (e.time >>> 8).setWidth 8, (e.time >>> 16).setWidth 8, (e.time >>> 24).setWidth 8,
               e.cueNo.setWidth 8, (e.cueNo >>> 8).setWidth 8, e.slot, e.detail1.setWidth 8, (e.detail1 >>> 8).setWidth 8,
               e.detail2.setWidth 8, (e.detail2 >>> 8).setWidth 8, 0][o % 16]? } }) ∧
    ((addrClass s.path.map x.addr.toNat).isWindow = true →
      ∃ t, exec (.readDataByte m) s = .next t ∧ ∀ m', exec (.readDataByte m') s = .next t)

/-- R190, R4: a byte for an armed entry, for the header outside STOPPED, for the log view or the spare window is
declined: the count goes up, the leg ends with the memory's latch, and from then on no byte of the transaction reaches
the memory.

R187, R190: in a WRITE begun with the shadow set, a byte of a program entry that is not armed goes to the memory and is
captured, with its flag; every other byte of the program mirror stays. -/
def Obligations.WriteBytesDeclinedOrCaptured : Prop :=
  (∀ (b : Byte) (x : Txn) (s : State), s.path.txn = some x → x.kind = .write true →
     (s.path.legOpen = true → declines s (addrClass s.path.map x.addr.toNat) = true →
       ∃ t, exec (.writeDataByte b) s = .next t ∧ t.path.legBytes = s.path.legBytes ∧ t.path.legOpen = false ∧
         t.path.latch = false ∧ t.path.declined = min 255 (s.path.declined + 1) ∧ t.path.program = s.path.program ∧
         t.path.header = s.path.header ∧ t = { s with path := t.path }) ∧
     (s.path.legOpen = false →
       ∃ t, exec (.writeDataByte b) s = .next t ∧ t.path.legBytes = s.path.legBytes ∧ t.path.legOpen = false ∧
         t.path.declined = s.path.declined ∧ t = { s with path := t.path })) ∧
  (∀ (b : Byte) (o : Nat) (x : Txn) (s : State), s.path.txn = some x → x.kind = .write true → s.path.legOpen = true →
     addrClass s.path.map x.addr.toNat = .program o → armed s (o / 16) = false → captureWf s.path.program = true →
     ∃ t, exec (.writeDataByte b) s = .next t ∧ t.path.legBytes = s.path.legBytes ++ [b] ∧
       byteAt t.path.program.bytes o = b ∧ captured t.path.program o = true ∧
       (∀ k, k ≠ o → byteAt t.path.program.bytes k = byteAt s.path.program.bytes k ∧
         captured t.path.program k = captured s.path.program k) ∧
       t.path.header = s.path.header ∧ t.path.mirror = s.path.mirror ∧ t.path.declined = s.path.declined ∧
       t = { s with path := t.path })

/-- R191, R182: a WRITE begun with the shadow clear passes unnoticed: its bytes reach the memory while the leg is open
and no window byte among them; nothing is captured or counted; and at its end nothing is applied and the shadow is
clear. -/
def Obligations.UnlatchedWritePassesUnnoticed : Prop :=
  ∀ (b : Byte) (x : Txn) (s : State), s.path.txn = some x → x.kind = .write false →
    (∃ t, exec (.writeDataByte b) s = .next t ∧
      t.path.legBytes = (if s.path.legOpen = true ∧ (addrClass s.path.map x.addr.toNat).isWindow = false
        then s.path.legBytes ++ [b] else s.path.legBytes) ∧
      t.path.legOpen = (s.path.legOpen && !(addrClass s.path.map x.addr.toNat).isWindow) ∧
      t.path.header = s.path.header ∧ t.path.program = s.path.program ∧ t.path.mirror = s.path.mirror ∧
      t.path.declined = s.path.declined ∧ t.path.partialLive = s.path.partialLive ∧ t = { s with path := t.path }) ∧
    exec .transactionEnd s = .next { s with path := { s.path with txn := none, legOpen := false, latch := false } }

/-- R200 for a READ that touched no header, settings or live byte, and R199, R205: at its end the path consumes the
snapshot entries read in full, from the oldest, and nothing else of the part changes. -/
def Obligations.ReadConsumesLogEntries : Prop :=
  ∀ (x : Txn) (p : Snapshot) (n : Nat) (s : State), s.path.txn = some x → x.kind = .read p → LogSequential s →
    p.log = s.log.ring.take 24 → n ≤ p.log.length → x.headerTouched = false → x.settingsSeen = [] → x.live = [] →
    (∀ o, assocHas x.logRead o = true ↔ o < 16 * n) → x.wasComplete = settingsComplete s →
    lineRole s.path.settings = s.line.role →
    exec .transactionEnd s = .next { s with
      path := { s.path with txn := none, legOpen := false }
      log := { s.log with ring := s.log.ring.drop n } }

/-- R197, R208: the fault-flag field written with both its bytes, and nothing else, acknowledges at the transaction's
end: each flag whose bit is 1 is set exactly if its persisting condition holds, every other flag is as it was, and bit
15 clears the lost count. -/
def Obligations.AcknowledgeClearsFlags : Prop :=
  ∀ (x : Txn) (lo hi : Byte) (s : State), s.path.txn = some x → x.kind = .write true → x.headerTouched = false →
    x.settingsSeen = [] → x.live = [] → x.absorbed = [(0xFF9A, lo), (0xFF9B, hi)] →
    x.wasComplete = settingsComplete s → lineRole s.path.settings = s.line.role →
    ∃ t, exec .transactionEnd s = .next t ∧
      (∀ f : FaultFlag, flagOn t f =
        if (wordOf lo hi).getLsbD f.bit then persists s f else flagOn s f) ∧
      t.log.lost = (if (wordOf lo hi).getLsbD 15 then 0 else s.log.lost) ∧ t.log.ring = s.log.ring ∧
      t.log.next = s.log.next ∧ t.path = { s.path with txn := none, legOpen := false, latch := false } ∧
      t = { s with path := t.path, log := t.log }

/-- R185: the header's five checks, made in order: the first that fails gives the code. R184, R186: at the end of a
transaction that touched the header, with all 12 bytes captured, a valid header with a new map is adopted: the marks of
program and settings mirror go, their bytes, the settings in force and the loaded states stay, the pointer is limited
and MAP is logged; the map in force again changes nothing; an invalid header enters MAP_FAULT, flagged and logged, with
no entry in force, and in MAP_FAULT changes nothing; with a byte missing nothing is decided.

R188: at the end of a transaction that touched no header byte, a block that became complete replaces the settings in
force; of one complete at the start the bytes captured do; an incomplete one changes nothing. The line unit takes the
role then in force, and a READY transport is UNHOMED where S changed.

R194, R195, R196: a lamp usage record read or written complete sets both sockets' minutes and starts and is LOADED; so
does the show position with the pointer, and a write of it in STOPPED or HELD only, with the run-state request it
carries; a tape record written in part is counted. -/
def Obligations.TransactionEndActsOnMapSettingsAndRecords : Prop :=
  (∀ b : Bytes,
     (headerFailure b = some 1 ↔ ¬ (byteAt b 0 = 0x4A ∧ byteAt b 1 = 0x4B)) ∧
     (headerFailure b = some 2 ↔ byteAt b 0 = 0x4A ∧ byteAt b 1 = 0x4B ∧ headerField b 2 ≠ 1) ∧
     (headerFailure b = some 3 ↔ byteAt b 0 = 0x4A ∧ byteAt b 1 = 0x4B ∧ headerField b 2 = 1 ∧ 512 < headerField b 4) ∧
     (headerFailure b = some 4 ↔ byteAt b 0 = 0x4A ∧ byteAt b 1 = 0x4B ∧ headerField b 2 = 1 ∧ headerField b 4 ≤ 512 ∧
       ¬ rangesInside (headerMap b)) ∧
     (headerFailure b = some 5 ↔ byteAt b 0 = 0x4A ∧ byteAt b 1 = 0x4B ∧ headerField b 2 = 1 ∧ headerField b 4 ≤ 512 ∧
       rangesInside (headerMap b) ∧ ¬ rangesApart (headerMap b)) ∧
     (headerFailure b = none ↔ byteAt b 0 = 0x4A ∧ byteAt b 1 = 0x4B ∧ headerField b 2 = 1 ∧ headerField b 4 ≤ 512 ∧
       rangesInside (headerMap b) ∧ rangesApart (headerMap b))) ∧
  (∀ (x : Txn) (p : Snapshot) (s : State), s.path.txn = some x → (x.kind = .read p ∨ x.kind = .write true) →
     x.headerTouched = true → x.settingsSeen = [] → x.live = [] → x.absorbed = [] → x.logRead = [] →
     x.wasComplete = settingsComplete s → lineRole s.path.settings = s.line.role →
     ∃ t, exec .transactionEnd s = .next t ∧ t.path.txn = none ∧ t.path.settings = s.path.settings ∧
       t.path.header = s.path.header ∧ t.path.program.bytes = s.path.program.bytes ∧
       t.path.mirror.bytes = s.path.mirror.bytes ∧ t.path.showLoaded = s.path.showLoaded ∧
       t.path.usageLoaded = s.path.usageLoaded ∧ t.path.tapeLoaded = s.path.tapeLoaded ∧
       t = { s with path := t.path, engine := t.engine, log := t.log } ∧
       ((∀ o, o < 12 → captured s.path.header o = true) →
         (headerFailure s.path.header.bytes = none → s.path.map ≠ .mapped (headerMap s.path.header.bytes) →
           t.path.map = .mapped (headerMap s.path.header.bytes) ∧ t.path.program.marks = [] ∧ t.path.mirror.marks = [] ∧
           t.engine = { s.engine with pointer := min s.engine.pointer (headerField s.path.header.bytes 4) } ∧
           t.log.ring.getLast? =
             some { sequence := s.log.next, kind := .map, source := .path, time := s.clock.showClock, cueNo := 0xFFFF,
                    slot := slotByte s.transport.slotInGate, detail1 := 1,
                    detail2 := toWord (headerField s.path.header.bytes 4) }) ∧
         (∀ code, headerFailure s.path.header.bytes = some code → s.path.map ≠ .mapFault →
           t.path.map = .mapFault ∧ t.path.program.marks = [] ∧ t.path.mirror.marks = [] ∧
           t.engine = { s.engine with pointer := 0 } ∧ flagOn t .mapFault = true ∧
           t.log.ring.getLast? =
             some { sequence := s.log.next, kind := .map, source := .path, time := s.clock.showClock, cueNo := 0xFFFF,
                    slot := slotByte s.transport.slotInGate, detail1 := 2, detail2 := toWord code })) ∧
       (((∃ o, o < 12 ∧ captured s.path.header o = false) ∨
           (headerFailure s.path.header.bytes = none ∧ s.path.map = .mapped (headerMap s.path.header.bytes)) ∨
           (headerFailure s.path.header.bytes ≠ none ∧ s.path.map = .mapFault)) →
         t.path.map = s.path.map ∧ t.path.program = s.path.program ∧ t.path.mirror = s.path.mirror ∧
         t.engine = s.engine ∧ t.log = s.log)) ∧
  (∀ (x : Txn) (p : Snapshot) (s : State), s.path.txn = some x → (x.kind = .read p ∨ x.kind = .write true) →
     x.headerTouched = false → x.live = [] → x.absorbed = [] → x.logRead = [] → Memory.wf s.path.settings = true →
     ∃ t, exec .transactionEnd s = .next t ∧
       t.path = { s.path with
         txn := none, legOpen := false, settings := t.path.settings
         latch := if x.kind = .write true then false else s.path.latch } ∧
       (x.wasComplete = true → ∀ o, byteAt t.path.settings o =
         if assocHas x.settingsSeen o = true then byteAt s.path.mirror.bytes o else byteAt s.path.settings o) ∧
       (x.wasComplete = false → (∀ o, o < 128 → captured s.path.mirror o = true) →
         t.path.settings = s.path.mirror.bytes) ∧
       (x.wasComplete = false → (∃ o, o < 128 ∧ captured s.path.mirror o = false) →
         t.path.settings = s.path.settings) ∧
       t.line.role = lineRole t.path.settings ∧
       (traySize t.path.settings ≠ traySize s.path.settings → s.transport.state = .ready →
         t.transport.state = .unhomed ∧ t.transport.slotInGate = none) ∧
       (traySize t.path.settings = traySize s.path.settings → t.transport.state = s.transport.state ∧
         t.transport.slotInGate = s.transport.slotInGate ∧ t.transport.position = s.transport.position)) ∧
  (∀ (x : Txn) (p : Snapshot) (s : State), s.path.txn = some x → x.headerTouched = false → x.settingsSeen = [] →
     x.absorbed = [] → x.logRead = [] → x.wasComplete = settingsComplete s → lineRole s.path.settings = s.line.role →
     ((x.kind = .read p ∨ x.kind = .write true) → (∀ o, assocHas x.live o = true ↔ 8 ≤ o ∧ o < 20) →
       ∃ t, exec .transactionEnd s = .next t ∧ t.path.usageLoaded = true ∧ t.path.showLoaded = s.path.showLoaded ∧
         t.path.tapeLoaded = s.path.tapeLoaded ∧ t.path.settings = s.path.settings ∧
         t = { s with path := t.path, lamp := { s.lamp with
           usePrimary := { s.lamp.usePrimary with
             minutes := (clockOf (liveAt x.live 8) (liveAt x.live 9) (liveAt x.live 10) (liveAt x.live 11)).toNat
             starts := (wordOf (liveAt x.live 16) (liveAt x.live 17)).toNat }
           useSpare := { s.lamp.useSpare with
             minutes := (clockOf (liveAt x.live 12) (liveAt x.live 13) (liveAt x.live 14) (liveAt x.live 15)).toNat
             starts := (wordOf (liveAt x.live 18) (liveAt x.live 19)).toNat } } }) ∧
     (x.kind = .read p → (∀ o, assocHas x.live o = true ↔ o < 8) →
       exec .transactionEnd s = .next { s with
         path := { s.path with txn := none, legOpen := false, showLoaded := true }
         engine := { s.engine with
           pointer := min (wordOf (liveAt x.live 0) (liveAt x.live 1)).toNat (entriesInForce s) } }) ∧
     (x.kind = .write true → (∀ o, assocHas x.live o = true ↔ o < 8) →
       ∃ t, exec .transactionEnd s = .next t ∧ t.path.showLoaded = true ∧
         t.engine.pointer =
           (if s.engine.runState = .stopped ∨ s.engine.runState = .held then
             min (wordOf (liveAt x.live 0) (liveAt x.live 1)).toNat (entriesInForce s) else s.engine.pointer) ∧
         t.engine.runState =
           (match (liveAt x.live 3).toNat, s.engine.runState with
             | 0, _ => .stopped
             | 1, .stopped => .running
             | 1, .held => .running
             | 2, .running => .held
             | 3, .stopped => .learning
             | _, r => r) ∧
         ((liveAt x.live 3).toNat = s.engine.runState.code ∨ 4 ≤ (liveAt x.live 3).toNat →
           t = { s with path := t.path, engine := t.engine } ∧ t.engine.queue = s.engine.queue ∧
             t.engine.cue = s.engine.cue)) ∧
     (x.kind = .write true → (∀ o, assocHas x.live o = true → 20 ≤ o ∧ o < 24) →
       (∃ o, assocHas x.live o = true) → (∃ o, 20 ≤ o ∧ o < 24 ∧ assocHas x.live o = false) →
       exec .transactionEnd s = .next { s with path := { s.path with
         txn := none, legOpen := false, latch := false, partialLive := min 255 (s.path.partialLive + 1) } }))

/-- R198: the control record written with all its bytes makes one request at the transaction's end, whose code and result
become the read-back. A code of 0 or above 17 gives UNKNOWN, 5. START, HOLD, RESUME and LEARN are TAKEN, 1, in the run
state Table 1-4 gives them and REFUSED_STATE, 2, in every other; STOP is always TAKEN. ADVANCE, REVERSE and GOTO post a
CONTROL cue, REFUSED_FULL, 4, with the queue full; a GOTO to a slot above S gives REFUSED_ARGUMENT, 3. DECK is refused a
mode above 4 and every mode that its run state does not allow (R105). A refusal changes nothing else, but for the entry
of a full queue and NO_LAMP.

R60: LAMP_ON in ON cancels the going-off mark of a LIT or SWAPPING lamp; a dark one goes LIT at the chosen socket's stop or
SWAPPING toward it, and with no GOOD socket enters FAULT with NO_LAMP. R61, R23: LAMP_OFF fades over the stop fade, and a
ramp of the cue engine is taken over. R63: LAMP_REPLACED makes its socket GOOD and takes FAULT to OFF.

R51: CLEAR_JAM takes JAMMED to UNHOMED. R86, R87, R89, R90, R91: POWER_ON and POWER_OFF by power state; the show stops as
ON is left. R149: LINE_RESET takes a lead to DETECT from LINE_FAULT, to OFF from every other state. That the first detect
period falls a full 10 ms after this entry to DETECT is the model's choice (assumption 8).

R135 to R139, R141: WRITE_CUE outside RECORD gives 2, and with a kind or number out of range 3; by offset 3 where the frame
leaves the window and 4 over an occupied slot; as soon as possible 4 with no free run. Placed, by offset or at the first
free run from offset 8, it is TAKEN: the slots hold the frame's cells, every other slot stays, the sequence advances, and
FRAME_WRITTEN is the last entry of the log. -/
def Obligations.ControlRequestsAreDecided : Prop :=
  ∀ (x : Txn) (q : Nat → Byte) (s : State), s.path.txn = some x → x.kind = .write true → x.headerTouched = false →
    x.settingsSeen = [] → x.live = [] → (∀ o, o < 8 → assocGet x.absorbed (0xFFA0 + o) = some (q o)) →
    assocHas x.absorbed 0xFF9A = false → x.wasComplete = settingsComplete s → lineRole s.path.settings = s.line.role →
    ∃ (t : State) (result : Nat), exec .transactionEnd s = .next t ∧
      t.path = { s.path with
        txn := none, legOpen := false, latch := false, reqCode := q 0, reqResult := toByte result } ∧
      ((q 0).toNat = 0 ∨ 17 < (q 0).toNat → result = 5) ∧
      ((q 0).toNat = 1 → result = (if s.engine.runState = .stopped then 1 else 2) ∧
        (result = 1 → t.engine = { s.engine with runState := .running })) ∧
      ((q 0).toNat = 2 → result = (if s.engine.runState = .running then 1 else 2) ∧
        (result = 1 → t.engine = { s.engine with runState := .held })) ∧
      ((q 0).toNat = 3 → result = (if s.engine.runState = .held then 1 else 2) ∧
        (result = 1 → t.engine = { s.engine with runState := .running })) ∧
      ((q 0).toNat = 4 → result = 1 ∧ t.engine.runState = .stopped ∧ t.engine.queue = []) ∧
      ((q 0).toNat = 5 → result = (if s.engine.runState = .stopped then 1 else 2) ∧
        (result = 1 → t.engine = { s.engine with runState := .learning })) ∧
      (∀ k : CueKind, ((q 0).toNat = 6 ∧ k = .advance) ∨ ((q 0).toNat = 7 ∧ k = .reverse) ∨
          ((q 0).toNat = 8 ∧ (q 1).toNat ≤ traySize s.path.settings ∧ k = .goto (q 1).toNat) →
        result = (if s.engine.queue.length < 4 then 1 else 4) ∧
        (result = 1 → t = { s with path := t.path, engine := { s.engine with
          queue := s.engine.queue ++
            [{ source := .control, kind := k, arrival := s.clock.showClock, start := none }] } }) ∧
        (result = 4 → t = { s with path := t.path, log := t.log })) ∧
      ((q 0).toNat = 8 → traySize s.path.settings < (q 1).toNat → result = 3) ∧
      ((q 0).toNat = 10 → result = 1) ∧ ((q 0).toNat = 11 → result = if (q 1).toNat ≤ 1 then 1 else 3) ∧
      ((q 0).toNat = 12 → result =
        if 4 < (q 1).toNat then 3
        else if s.engine.runState = .learning ∨ (2 ≤ (q 1).toNat ∧ s.engine.runState = .running) then 2 else 1) ∧
      ((q 0).toNat = 9 ∨ (14 ≤ (q 0).toNat ∧ (q 0).toNat ≤ 17) → result = 1 ∨ result = 2) ∧
      ((q 0).toNat = 9 →
        (s.power.state ≠ .on ∨ s.lamp.state = .fault → result = 2 ∧ t = { s with path := t.path }) ∧
        (s.power.state = .on →
          (s.lamp.state = .lit ∨ s.lamp.state = .swapping → result = 1 ∧
            t = { s with path := t.path, lamp := { s.lamp with
              goingOff := none
              ramp := { s.lamp.ramp with
                requester := if s.lamp.ramp.requester = some .off then none else s.lamp.ramp.requester } } }) ∧
          (s.lamp.state = .off → s.lamp.primary = .failed → s.lamp.spare = .failed → result = 2 ∧
            t = { s with path := t.path, lamp := t.lamp, log := t.log } ∧ t.lamp.state = .fault ∧ flagOn t .noLamp = true ∧
            t.log.ring.getLast? =
              some { sequence := s.log.next, kind := .noLamp, source := .lamp, time := s.clock.showClock, cueNo := 0xFFFF,
                     slot := slotByte s.transport.slotInGate, detail1 := 1, detail2 := 0xFFFF }) ∧
          (∀ k : Socket, s.lamp.state = .off → socketState s.lamp k = .good →
            (if s.lamp.endPrimary = s.lamp.endSpare then k = .primary ∨ s.lamp.primary = .failed
              else k = s.lamp.active ∨ socketState s.lamp s.lamp.active = .failed) →
            result = 1 ∧ t = { s with path := t.path, lamp := t.lamp } ∧ t.lamp.active = k ∧ t.lamp.duty = 0 ∧
            t.lamp.goingOff = none ∧ t.lamp.level = s.lamp.level ∧ t.lamp.ramp = s.lamp.ramp ∧
            (carriagePosition s.lamp = stopOf k → t.lamp.state = .lit) ∧
            (carriagePosition s.lamp ≠ stopOf k → t.lamp.state = .swapping ∧
              t.lamp.carriageTimer = some (s.clock.now + 2000000))))) ∧
      ((q 0).toNat = 10 →
        (s.lamp.state = .off ∨ s.lamp.state = .fault → t = { s with path := t.path }) ∧
        (∀ off : Lamp, off = { s.lamp with
            goingOff := some .control
            ramp := { l0 := s.lamp.level, l1 := 0, n := stopFade s.path.settings, k := 0, active := true,
                      requester := some .off } } →
          s.lamp.state = .lit ∨ s.lamp.state = .swapping →
          ((∀ e, s.engine.cue = some e → e.awaiting = false) → t = { s with path := t.path, lamp := off }) ∧
          (∀ e, s.engine.cue = some e → e.awaiting = true → e.phase = .fadingIn → e.cycle = false →
            s.lamp.ramp.active = true → s.lamp.ramp.requester = some .engine →
            t.lamp = off ∧ t.engine = { s.engine with cue := none }))) ∧
      ((q 0).toNat = 11 → (q 1).toNat ≤ 1 →
        t = { s with path := t.path, lamp := { s.lamp with
          primary := if (q 1).toNat = 0 then .good else s.lamp.primary
          spare := if (q 1).toNat = 1 then .good else s.lamp.spare
          state := if s.lamp.state = .fault then .off else s.lamp.state } }) ∧
      ((q 0).toNat = 12 → result = 1 → s.deck.mode = .stop →
        ((q 1).toNat = 1 → t.deck.mode = .play) ∧ ((q 1).toNat = 2 → t.deck.mode = .fastFwd) ∧
        ((q 1).toNat = 3 → t.deck.mode = .rewind)) ∧
      ((q 0).toNat = 14 →
        (s.transport.state ≠ .jammed → result = 2) ∧
        (s.transport.state = .jammed → result = 1 ∧ t = { s with path := t.path, transport := { s.transport with
          state := .unhomed, jamCause := none, stepCount := none, position := none, slotInGate := none } })) ∧
      ((q 0).toNat = 15 →
        (s.power.state = .runup ∨ s.power.state = .on → result = 2) ∧
        (s.power.state = .standby → result = 1 ∧ t = { s with path := t.path, power := t.power, log := t.log } ∧
          t.power.state = .runup ∧ t.power.runupCount = 0 ∧ t.power.runupTimer = some (s.clock.now + 2000000) ∧
          t.power.fanDuty = fanMax s.path.settings) ∧
        (s.power.state = .shutdown → result = 1 ∧ t = { s with path := t.path, power := t.power, log := t.log } ∧
          t.power.state = .on ∧ t.power.owed = false ∧ t.power.cooldown = 0)) ∧
      ((q 0).toNat = 16 →
        (s.power.state = .standby ∨ s.power.state = .shutdown → result = 2) ∧
        (s.power.state = .runup → s.power.owed = false → result = 1 ∧ t.power.state = .standby ∧ mainsOn t = false ∧
          t.lamp = s.lamp ∧ t.engine = s.engine) ∧
        (s.power.state = .runup → s.power.owed = true → result = 1 ∧ t.power.state = .shutdown) ∧
        (s.power.state = .on → result = 1 ∧ t.engine.runState = .stopped ∧ t.engine.queue = [] ∧
          (s.lamp.state = .lit ∨ s.lamp.state = .swapping → s.engine.cue = none →
            t.power.state = .shutdown ∧
            t.lamp = { s.lamp with
              goingOff := some .power
              ramp := { l0 := s.lamp.level, l1 := 0, n := powerFade s.path.settings, k := 0, active := true,
                        requester := some .off } }) ∧
          (s.lamp.state = .off ∨ s.lamp.state = .fault → s.transport.state ≠ .cycling → s.power.owed = false →
            t.power.state = .standby))) ∧
      ((q 0).toNat = 17 →
        (s.line.role = .follower → result = 2) ∧
        (s.line.role = .lead → result = 1 ∧ t.line.overcurrents = 0 ∧ t.line.quiet = none ∧
          (s.line.state = .lineFault → t = { s with path := t.path, line := { s.line with
            state := .detect, detectCount := 0, detectPeriod := some (s.clock.now + 10000), discharge := none
            overcurrents := 0, quiet := none } }) ∧
          (s.line.state ≠ .lineFault → t.line.state = .off ∧ t.line.discharge = some (s.clock.now + 200000) ∧
            t.line.retry = none ∧ t.line.settle = none ∧ t.line.detectCount = 0 ∧ t.line.detectPeriod = none ∧
            (s.line.state.powered = true → t.line.queue = [])))) ∧
      ((q 0).toNat = 13 →
        (s.deck.mode ≠ .record → result = 2) ∧
        (s.deck.mode = .record →
          ((q 1).toNat = 0 ∨ 6 < (q 1).toNat ∨ ((q 1).toNat = 3 ∧ 4095 < (wordOf (q 2) (q 3)).toNat) → result = 3) ∧
          (1 ≤ (q 1).toNat → (q 1).toNat ≤ 6 → ((q 1).toNat = 3 → (wordOf (q 2) (q 3)).toNat ≤ 4095) →
            ((wordOf (q 4) (q 5)).toNat ≠ 0 →
              ((wordOf (q 4) (q 5)).toNat < 8 ∨ 200 < (wordOf (q 4) (q 5)).toNat ∨
                  248 < (wordOf (q 4) (q 5)).toNat + frameLength (q 1).toNat → result = 3) ∧
              (8 ≤ (wordOf (q 4) (q 5)).toNat → (wordOf (q 4) (q 5)).toNat ≤ 200 →
                (wordOf (q 4) (q 5)).toNat + frameLength (q 1).toNat ≤ 248 →
                (∃ i, i < frameLength (q 1).toNat ∧
                  assocHas s.writer.slots ((s.writer.pointer + ((wordOf (q 4) (q 5)).toNat + i)) % 256) = true) →
                result = 4)) ∧
            ((wordOf (q 4) (q 5)).toNat = 0 →
              (∀ d, 8 ≤ d → d + frameLength (q 1).toNat ≤ 248 → ∃ i, i < frameLength (q 1).toNat ∧
                assocHas s.writer.slots ((s.writer.pointer + (d + i)) % 256) = true) → result = 4) ∧
            (∀ d, 8 ≤ d → d ≤ 200 → d + frameLength (q 1).toNat ≤ 248 →
              (d = (wordOf (q 4) (q 5)).toNat ∨ ((wordOf (q 4) (q 5)).toNat = 0 ∧
                ∀ d', 8 ≤ d' → d' < d → ∃ i, i < frameLength (q 1).toNat ∧
                  assocHas s.writer.slots ((s.writer.pointer + (d' + i)) % 256) = true)) →
              (∀ i, i < frameLength (q 1).toNat →
                assocHas s.writer.slots ((s.writer.pointer + (d + i)) % 256) = false) →
              result = 1 ∧ t.writer = { s.writer with slots := t.writer.slots, sequence := (s.writer.sequence + 1) % 4 } ∧
              (∀ i, i < frameLength (q 1).toNat →
                assocGet t.writer.slots ((s.writer.pointer + (d + i)) % 256) =
                  (frameCells (q 1).toNat s.writer.sequence (wordOf (q 2) (q 3)))[i]?) ∧
              (∀ k, (∀ i, i < frameLength (q 1).toNat → k ≠ (s.writer.pointer + (d + i)) % 256) →
                assocGet t.writer.slots k = assocGet s.writer.slots k) ∧
              t.log.ring.getLast? =
                some { sequence := s.log.next, kind := .frameWritten, source := .cue .control, time := s.clock.showClock,
                       cueNo := if (q 1).toNat = 3 then wordOf (q 2) (q 3) else 0xFFFF,
                       slot := slotByte s.transport.slotInGate, detail1 := toWord d,
                       detail2 := toWord (headerChar (q 1).toNat s.writer.sequence).toNat } ∧
              t = { s with path := t.path, writer := t.writer, log := t.log })))) ∧
      ((q 0).toNat = 0 ∨ 17 < (q 0).toNat ∨
          (result ≠ 1 ∧ ((q 0).toNat ≤ 3 ∨ (q 0).toNat = 5 ∨ 11 ≤ (q 0).toNat)) ∨
          ((q 0).toNat = 8 ∧ traySize s.path.settings < (q 1).toNat) →
        t = { s with path := t.path })

/-! ### Rules of the whole part -/

/-- R207, R208, R210: a set flag stays set, but for an acknowledgement at a transaction's end and for the resets.

R202, R204, R205: log entries are never changed: but for the consumption at a transaction's end and for the resets, a
command adds entries at the tail, as many as the next sequence number advances by and numbered on from it, and the log is
then the last 64 of the entries before and the new ones. Stated from states whose log holds at most 64 entries and whose
queues keep their capacities. -/
def Obligations.FlagsAndLogEntriesStay : Prop :=
  (∀ (c : Instr) (s t : State), exec c s = .next t → c ≠ .transactionEnd → (∀ r, c ≠ .powerOnReset r) →
     (∀ r, c ≠ .resetInput r) → ∀ f : FaultFlag, flagOn s f = true → flagOn t f = true) ∧
  (∀ (c : Instr) (s t : State), exec c s = .next t → c ≠ .transactionEnd → (∀ r, c ≠ .powerOnReset r) →
     (∀ r, c ≠ .resetInput r) → s.log.ring.length ≤ 64 → BuffersBounded s →
     ∃ new : List LogEntry, new.length = (t.log.next - s.log.next).toNat ∧
       (∀ i e, new[i]? = some e → e.sequence = s.log.next + BitVec.ofNat 16 i) ∧
       t.log.ring = (s.log.ring ++ new).drop ((s.log.ring ++ new).length - 64))

/-- R181, R190, R193, R200: a transaction reaches the rest of the part only at its end: every other command of the
memory link changes the path alone.

R181, R188, R200: the memory path changes only at the commands of the memory link and at the resets: no sensor, timer,
key or line frame reaches the map, the mirrors, the settings in force or the transaction in progress. -/
def Obligations.TransactionsActOnlyAtEnd : Prop :=
  (∀ (c : Instr) (s : State),
     ((∃ a, c = .read a) ∨ (∃ m, c = .readDataByte m) ∨ (∃ a, c = .write a) ∨ (∃ b, c = .writeDataByte b) ∨
       c = .setLatch ∨ c = .clearLatch ∨ c = .readStatus ∨ ∃ b, c = .foreignTransaction b) →
     ∃ t, exec c s = .next t ∧ t = { s with path := t.path } ∧ t.path.settings = s.path.settings ∧
       t.path.map = s.path.map ∧ t.path.showLoaded = s.path.showLoaded ∧ t.path.usageLoaded = s.path.usageLoaded ∧
       t.path.tapeLoaded = s.path.tapeLoaded ∧ t.path.reqCode = s.path.reqCode ∧ t.path.reqResult = s.path.reqResult) ∧
  (∀ (c : Instr) (s t : State), exec c s = .next t → (∀ a, c ≠ .read a) → (∀ m, c ≠ .readDataByte m) →
     (∀ a, c ≠ .write a) → (∀ b, c ≠ .writeDataByte b) → c ≠ .setLatch → c ≠ .clearLatch → c ≠ .readStatus →
     (∀ b, c ≠ .foreignTransaction b) → c ≠ .transactionEnd → (∀ r, c ≠ .powerOnReset r) → (∀ r, c ≠ .resetInput r) →
     t.path = s.path)

/-! ### Invariants -/

/-- Every invariant of Sys2Proof/Safety.lean holds of the state after reset. -/
def Obligations.InvariantsHoldAtReset : Prop :=
  DriveSafe State.reset ∧ TransportSettled State.reset ∧ CycleOwned State.reset ∧ MapSound State.reset ∧
    StoresCanonical State.reset ∧ WriterClear State.reset ∧ BuffersBounded State.reset ∧ LogSequential State.reset ∧
    LevelsBounded State.reset ∧ CountersBounded State.reset ∧ CellBounded State.reset ∧ RoleAgrees State.reset ∧
    FlagsTrack State.reset ∧ TransportTimed State.reset ∧ PowerTimed State.reset ∧ DeckTimed State.reset ∧
    LineTimed State.reset

/-- R67, R85, R91, R99: no step drives a lamp that is not LIT, lights it or starts a cycle outside ON and SHUTDOWN, or
leaves cooldown owed in STANDBY. So the duty is above 0 only while mains enable is asserted. -/
def Obligations.StepKeepsDriveSafe : Prop :=
  ∀ s t : State, DriveSafe s → step s = .next t → DriveSafe t ∧ (0 < t.lamp.duty → mainsOn t = true)

/-- R42, R45, R50, R52, R56: every step keeps the transport settled: no motor runs outside CYCLING, SEAT finds the cam
at its index, and READY knows the slot in gate over the position it stands at. -/
def Obligations.StepKeepsTransportSettled : Prop :=
  ∀ s t : State, TransportSettled s → step s = .next t → TransportSettled t

/-- R6, R19, R20, R25: every step keeps the change cycle in flight and the executing cue together. -/
def Obligations.StepKeepsCycleOwned : Prop :=
  ∀ s t : State, CycleOwned s → step s = .next t → CycleOwned t

/-- R3, R185, R186: every step keeps an adopted map's ranges apart and in bounds, and the pointer within the entries in
force. -/
def Obligations.StepKeepsMapSound : Prop :=
  ∀ s t : State, MapSound s → step s = .next t → MapSound t

/-- Every step keeps every addressed store in its canonical form, the model's own, and the writer's slots clear of the
window's end (R130, R136, R137).

R8, R115, R122, R156, R158, R174: every step keeps every queue, ring and entry within its capacity. -/
def Obligations.StepKeepsStoresAndQueues : Prop :=
  ((∀ s t : State, StoresCanonical s → step s = .next t → StoresCanonical t) ∧
   (∀ s t : State, WriterClear s → step s = .next t → WriterClear t)) ∧
  (∀ s t : State, BuffersBounded s → step s = .next t → BuffersBounded t)

/-- R202, R204, R205: every step keeps the log's entries numbered without a gap up to the next sequence number, at most
64 of them. -/
def Obligations.StepKeepsLogSequential : Prop :=
  ∀ s t : State, LogSequential s → step s = .next t → LogSequential t

/-- R64, R71, R92, R95, R96, R112: every step keeps the outputs in their ranges.

Section 1.6 and the rule of each counter: every step keeps every counter within its width; R118, R121: and the cell
estimate within 1,500..2,500 µs. -/
def Obligations.StepKeepsLevelsAndCounters : Prop :=
  (∀ s t : State, LevelsBounded s → step s = .next t → LevelsBounded t) ∧
  ((∀ s t : State, CountersBounded s → step s = .next t → CountersBounded t) ∧
   (∀ s t : State, CellBounded s → step s = .next t → CellBounded t))

/-- R144: every step keeps the line unit in the role in force, and LISTENING the follower's one state. -/
def Obligations.StepKeepsRoleAgrees : Prop :=
  ∀ s t : State, RoleAgrees s → step s = .next t → RoleAgrees t

/-- R207, R208, R210: every step keeps the tracked flags set while their conditions hold; no acknowledgement can hide
such a condition. -/
def Obligations.StepKeepsFlagsTracking : Prop :=
  ∀ s t : State, FlagsTrack s → step s = .next t → FlagsTrack t

/-- R32, R34, R36, R43, R55 and R59, R87, R97: no step leaves transport, lamp or power waiting for a timer that does not
run; for the transport from a settled state, which every step keeps so (Obligations.StepKeepsTransportSettled).

R104, R106, R110, R111, R114, R131 and R146 to R159, R174, R176: no step leaves the deck, the cue track, the line or the
handset logic waiting for a timer that does not run, nor a request to brake waiting in the deck's pending slot. -/
def Obligations.StepKeepsWaitsTimed : Prop :=
  ((∀ s t : State, TransportSettled s → TransportTimed s → step s = .next t → TransportTimed t) ∧
   (∀ s t : State, PowerTimed s → step s = .next t → PowerTimed t)) ∧
  ((∀ s t : State, DeckTimed s → step s = .next t → DeckTimed t) ∧
   (∀ s t : State, LineTimed s → step s = .next t → LineTimed t))
end

