-- ==== Sys2Proof/Laws/FrameShared.lean ====
section
/-! SUPPORT. Which blocks of the state an operation leaves as they are, once for each of the operations that several
blocks share: the log, the deck, the line, the cue engine and the power unit. -/

namespace Sys2Proof.Machine

/-! ### Sys2Proof/Machine/Flags.lean -/

@[simp] theorem setFlag_frame (f : FaultFlag) (s : State) :
    (setFlag f s).pending = s.pending ∧ (setFlag f s).free = s.free ∧ (setFlag f s).clock = s.clock
    ∧ (setFlag f s).engine = s.engine ∧ (setFlag f s).transport = s.transport ∧ (setFlag f s).lamp = s.lamp
    ∧ (setFlag f s).power = s.power ∧ (setFlag f s).deck = s.deck ∧ (setFlag f s).decoder = s.decoder
    ∧ (setFlag f s).writer = s.writer ∧ (setFlag f s).line = s.line ∧ (setFlag f s).handset = s.handset
    ∧ (setFlag f s).path = s.path := by simp [setFlag]

@[simp] theorem acknowledge_frame (v : Word) (s : State) :
    (acknowledge v s).pending = s.pending ∧ (acknowledge v s).free = s.free ∧ (acknowledge v s).clock = s.clock
    ∧ (acknowledge v s).engine = s.engine ∧ (acknowledge v s).transport = s.transport
    ∧ (acknowledge v s).lamp = s.lamp ∧ (acknowledge v s).power = s.power ∧ (acknowledge v s).deck = s.deck
    ∧ (acknowledge v s).decoder = s.decoder ∧ (acknowledge v s).writer = s.writer ∧ (acknowledge v s).line = s.line
    ∧ (acknowledge v s).handset = s.handset ∧ (acknowledge v s).path = s.path := by simp [acknowledge]

/-! ### Sys2Proof/Machine/Ops.lean -/

@[simp] theorem post_frame (k : LogKind) (src : LogSource) (cueNo : Word) (slot : Byte) (d1 d2 : Nat) (s : State) :
    (post k src cueNo slot d1 d2 s).pending = s.pending ∧ (post k src cueNo slot d1 d2 s).free = s.free
    ∧ (post k src cueNo slot d1 d2 s).clock = s.clock ∧ (post k src cueNo slot d1 d2 s).engine = s.engine
    ∧ (post k src cueNo slot d1 d2 s).transport = s.transport ∧ (post k src cueNo slot d1 d2 s).lamp = s.lamp
    ∧ (post k src cueNo slot d1 d2 s).power = s.power ∧ (post k src cueNo slot d1 d2 s).deck = s.deck
    ∧ (post k src cueNo slot d1 d2 s).decoder = s.decoder ∧ (post k src cueNo slot d1 d2 s).writer = s.writer
    ∧ (post k src cueNo slot d1 d2 s).line = s.line ∧ (post k src cueNo slot d1 d2 s).handset = s.handset
    ∧ (post k src cueNo slot d1 d2 s).path = s.path := by
  unfold post
  split <;> simp

@[simp] theorem postGate_frame (k : LogKind) (src : LogSource) (cueNo : Word) (d1 d2 : Nat) (s : State) :
    (postGate k src cueNo d1 d2 s).pending = s.pending ∧ (postGate k src cueNo d1 d2 s).free = s.free
    ∧ (postGate k src cueNo d1 d2 s).clock = s.clock ∧ (postGate k src cueNo d1 d2 s).engine = s.engine
    ∧ (postGate k src cueNo d1 d2 s).transport = s.transport ∧ (postGate k src cueNo d1 d2 s).lamp = s.lamp
    ∧ (postGate k src cueNo d1 d2 s).power = s.power ∧ (postGate k src cueNo d1 d2 s).deck = s.deck
    ∧ (postGate k src cueNo d1 d2 s).decoder = s.decoder ∧ (postGate k src cueNo d1 d2 s).writer = s.writer
    ∧ (postGate k src cueNo d1 d2 s).line = s.line ∧ (postGate k src cueNo d1 d2 s).handset = s.handset
    ∧ (postGate k src cueNo d1 d2 s).path = s.path := by simp [postGate]

@[simp] theorem setDeckMode_frame (m : DeckMode) (s : State) :
    (setDeckMode m s).pending = s.pending ∧ (setDeckMode m s).free = s.free ∧ (setDeckMode m s).clock = s.clock
    ∧ (setDeckMode m s).engine = s.engine ∧ (setDeckMode m s).transport = s.transport
    ∧ (setDeckMode m s).lamp = s.lamp ∧ (setDeckMode m s).power = s.power ∧ (setDeckMode m s).line = s.line
    ∧ (setDeckMode m s).handset = s.handset ∧ (setDeckMode m s).log = s.log ∧ (setDeckMode m s).path = s.path := by
  unfold setDeckMode
  split <;> simp

@[simp] theorem startBraking_frame (p : PendingMode) (s : State) :
    (startBraking p s).pending = s.pending ∧ (startBraking p s).free = s.free ∧ (startBraking p s).clock = s.clock
    ∧ (startBraking p s).engine = s.engine ∧ (startBraking p s).transport = s.transport
    ∧ (startBraking p s).lamp = s.lamp ∧ (startBraking p s).power = s.power ∧ (startBraking p s).line = s.line
    ∧ (startBraking p s).handset = s.handset ∧ (startBraking p s).log = s.log ∧ (startBraking p s).path = s.path := by simp [startBraking]

@[simp] theorem deckRequest_frame (m : DeckMode) (s : State) :
    (deckRequest m s).pending = s.pending ∧ (deckRequest m s).free = s.free ∧ (deckRequest m s).clock = s.clock
    ∧ (deckRequest m s).engine = s.engine ∧ (deckRequest m s).transport = s.transport
    ∧ (deckRequest m s).lamp = s.lamp ∧ (deckRequest m s).power = s.power ∧ (deckRequest m s).line = s.line
    ∧ (deckRequest m s).handset = s.handset ∧ (deckRequest m s).log = s.log ∧ (deckRequest m s).path = s.path := by
  unfold deckRequest
  dsimp only
  (repeat' split) <;> simp

@[simp] theorem resolveLocate_frame (s : State) :
    (resolveLocate s).pending = s.pending ∧ (resolveLocate s).free = s.free ∧ (resolveLocate s).clock = s.clock
    ∧ (resolveLocate s).engine = s.engine ∧ (resolveLocate s).transport = s.transport
    ∧ (resolveLocate s).lamp = s.lamp ∧ (resolveLocate s).power = s.power ∧ (resolveLocate s).line = s.line
    ∧ (resolveLocate s).handset = s.handset ∧ (resolveLocate s).log = s.log ∧ (resolveLocate s).path = s.path := by
  unfold resolveLocate
  (repeat' split) <;> simp

@[simp] theorem deckLocate_frame (c : Int) (s : State) :
    (deckLocate c s).pending = s.pending ∧ (deckLocate c s).free = s.free ∧ (deckLocate c s).clock = s.clock
    ∧ (deckLocate c s).engine = s.engine ∧ (deckLocate c s).transport = s.transport ∧ (deckLocate c s).lamp = s.lamp
    ∧ (deckLocate c s).power = s.power ∧ (deckLocate c s).line = s.line ∧ (deckLocate c s).handset = s.handset
    ∧ (deckLocate c s).log = s.log ∧ (deckLocate c s).path = s.path := by
  unfold deckLocate
  dsimp only
  split <;> simp

@[simp] theorem setCounter_frame (v : Int) (s : State) :
    (setCounter v s).pending = s.pending ∧ (setCounter v s).free = s.free ∧ (setCounter v s).clock = s.clock
    ∧ (setCounter v s).engine = s.engine ∧ (setCounter v s).transport = s.transport ∧ (setCounter v s).lamp = s.lamp
    ∧ (setCounter v s).power = s.power ∧ (setCounter v s).line = s.line ∧ (setCounter v s).handset = s.handset
    ∧ (setCounter v s).log = s.log ∧ (setCounter v s).path = s.path := by
  unfold setCounter
  dsimp only
  split <;> simp

@[simp] theorem audioRamp_frame (target t : Nat) (s : State) :
    (audioRamp target t s).pending = s.pending ∧ (audioRamp target t s).free = s.free
    ∧ (audioRamp target t s).clock = s.clock ∧ (audioRamp target t s).engine = s.engine
    ∧ (audioRamp target t s).transport = s.transport ∧ (audioRamp target t s).lamp = s.lamp
    ∧ (audioRamp target t s).power = s.power ∧ (audioRamp target t s).decoder = s.decoder
    ∧ (audioRamp target t s).writer = s.writer ∧ (audioRamp target t s).line = s.line
    ∧ (audioRamp target t s).handset = s.handset ∧ (audioRamp target t s).log = s.log
    ∧ (audioRamp target t s).path = s.path := by simp [audioRamp]

@[simp] theorem setAudio_frame (level : Nat) (s : State) :
    (setAudio level s).pending = s.pending ∧ (setAudio level s).free = s.free ∧ (setAudio level s).clock = s.clock
    ∧ (setAudio level s).engine = s.engine ∧ (setAudio level s).transport = s.transport
    ∧ (setAudio level s).lamp = s.lamp ∧ (setAudio level s).power = s.power ∧ (setAudio level s).decoder = s.decoder
    ∧ (setAudio level s).writer = s.writer ∧ (setAudio level s).line = s.line
    ∧ (setAudio level s).handset = s.handset ∧ (setAudio level s).log = s.log ∧ (setAudio level s).path = s.path := by simp [setAudio]

@[simp] theorem fadeAudioOut_frame (s : State) :
    (fadeAudioOut s).pending = s.pending ∧ (fadeAudioOut s).free = s.free ∧ (fadeAudioOut s).clock = s.clock
    ∧ (fadeAudioOut s).engine = s.engine ∧ (fadeAudioOut s).transport = s.transport ∧ (fadeAudioOut s).lamp = s.lamp
    ∧ (fadeAudioOut s).power = s.power ∧ (fadeAudioOut s).decoder = s.decoder ∧ (fadeAudioOut s).writer = s.writer
    ∧ (fadeAudioOut s).line = s.line ∧ (fadeAudioOut s).handset = s.handset ∧ (fadeAudioOut s).log = s.log
    ∧ (fadeAudioOut s).path = s.path := by simp [fadeAudioOut]

@[simp] theorem placeFrame_frame (src : CueSource) (kind : Nat) (data : Word) (offset : Option Nat) (s : State) :
    (placeFrame src kind data offset s).1.pending = s.pending ∧ (placeFrame src kind data offset s).1.free = s.free
    ∧ (placeFrame src kind data offset s).1.clock = s.clock
    ∧ (placeFrame src kind data offset s).1.engine = s.engine
    ∧ (placeFrame src kind data offset s).1.transport = s.transport
    ∧ (placeFrame src kind data offset s).1.lamp = s.lamp ∧ (placeFrame src kind data offset s).1.power = s.power
    ∧ (placeFrame src kind data offset s).1.deck = s.deck
    ∧ (placeFrame src kind data offset s).1.decoder = s.decoder
    ∧ (placeFrame src kind data offset s).1.line = s.line
    ∧ (placeFrame src kind data offset s).1.handset = s.handset
    ∧ (placeFrame src kind data offset s).1.path = s.path := by
  unfold placeFrame
  (repeat' split) <;> simp

@[simp] theorem setRamp_frame (target t : Nat) (req : Requester) (s : State) :
    (setRamp target t req s).pending = s.pending ∧ (setRamp target t req s).free = s.free
    ∧ (setRamp target t req s).clock = s.clock ∧ (setRamp target t req s).engine = s.engine
    ∧ (setRamp target t req s).transport = s.transport ∧ (setRamp target t req s).power = s.power
    ∧ (setRamp target t req s).deck = s.deck ∧ (setRamp target t req s).decoder = s.decoder
    ∧ (setRamp target t req s).writer = s.writer ∧ (setRamp target t req s).line = s.line
    ∧ (setRamp target t req s).handset = s.handset ∧ (setRamp target t req s).log = s.log
    ∧ (setRamp target t req s).path = s.path := by simp [setRamp]

@[simp] theorem engineRampUnowned_frame (target t : Nat) (s : State) :
    (engineRampUnowned target t s).pending = s.pending ∧ (engineRampUnowned target t s).free = s.free
    ∧ (engineRampUnowned target t s).clock = s.clock ∧ (engineRampUnowned target t s).engine = s.engine
    ∧ (engineRampUnowned target t s).transport = s.transport ∧ (engineRampUnowned target t s).power = s.power
    ∧ (engineRampUnowned target t s).deck = s.deck ∧ (engineRampUnowned target t s).decoder = s.decoder
    ∧ (engineRampUnowned target t s).writer = s.writer ∧ (engineRampUnowned target t s).line = s.line
    ∧ (engineRampUnowned target t s).handset = s.handset ∧ (engineRampUnowned target t s).log = s.log
    ∧ (engineRampUnowned target t s).path = s.path := by
  unfold engineRampUnowned
  split <;> simp

/-! ### Sys2Proof/Machine/LineOps.lean -/

@[simp] theorem sendFrame_frame (m : LineMsg) (s : State) :
    (sendFrame m s).pending = s.pending ∧ (sendFrame m s).free = s.free ∧ (sendFrame m s).clock = s.clock
    ∧ (sendFrame m s).engine = s.engine ∧ (sendFrame m s).transport = s.transport ∧ (sendFrame m s).lamp = s.lamp
    ∧ (sendFrame m s).power = s.power ∧ (sendFrame m s).deck = s.deck ∧ (sendFrame m s).decoder = s.decoder
    ∧ (sendFrame m s).writer = s.writer ∧ (sendFrame m s).handset = s.handset ∧ (sendFrame m s).log = s.log
    ∧ (sendFrame m s).path = s.path := by simp [sendFrame]

@[simp] theorem sendSync_frame (s : State) :
    (sendSync s).pending = s.pending ∧ (sendSync s).free = s.free ∧ (sendSync s).clock = s.clock
    ∧ (sendSync s).engine = s.engine ∧ (sendSync s).transport = s.transport ∧ (sendSync s).lamp = s.lamp
    ∧ (sendSync s).power = s.power ∧ (sendSync s).deck = s.deck ∧ (sendSync s).decoder = s.decoder
    ∧ (sendSync s).writer = s.writer ∧ (sendSync s).handset = s.handset ∧ (sendSync s).log = s.log
    ∧ (sendSync s).path = s.path := by simp [sendSync]

@[simp] theorem chooseFrame_frame (s : State) :
    (chooseFrame s).pending = s.pending ∧ (chooseFrame s).free = s.free ∧ (chooseFrame s).clock = s.clock
    ∧ (chooseFrame s).engine = s.engine ∧ (chooseFrame s).transport = s.transport ∧ (chooseFrame s).lamp = s.lamp
    ∧ (chooseFrame s).power = s.power ∧ (chooseFrame s).deck = s.deck ∧ (chooseFrame s).decoder = s.decoder
    ∧ (chooseFrame s).writer = s.writer ∧ (chooseFrame s).handset = s.handset ∧ (chooseFrame s).log = s.log
    ∧ (chooseFrame s).path = s.path := by
  unfold chooseFrame
  (repeat' split) <;> simp

@[simp] theorem enterIdle_frame (s : State) :
    (enterIdle s).pending = s.pending ∧ (enterIdle s).free = s.free ∧ (enterIdle s).clock = s.clock
    ∧ (enterIdle s).engine = s.engine ∧ (enterIdle s).transport = s.transport ∧ (enterIdle s).lamp = s.lamp
    ∧ (enterIdle s).power = s.power ∧ (enterIdle s).deck = s.deck ∧ (enterIdle s).decoder = s.decoder
    ∧ (enterIdle s).writer = s.writer ∧ (enterIdle s).handset = s.handset ∧ (enterIdle s).log = s.log
    ∧ (enterIdle s).path = s.path := by simp [enterIdle]

@[simp] theorem postDropped_frame (m : LineMsg) (why : Nat) (s : State) :
    (postDropped m why s).pending = s.pending ∧ (postDropped m why s).free = s.free
    ∧ (postDropped m why s).clock = s.clock ∧ (postDropped m why s).engine = s.engine
    ∧ (postDropped m why s).transport = s.transport ∧ (postDropped m why s).lamp = s.lamp
    ∧ (postDropped m why s).power = s.power ∧ (postDropped m why s).deck = s.deck
    ∧ (postDropped m why s).decoder = s.decoder ∧ (postDropped m why s).writer = s.writer
    ∧ (postDropped m why s).line = s.line ∧ (postDropped m why s).handset = s.handset
    ∧ (postDropped m why s).path = s.path := by simp [postDropped]

@[simp] theorem postBroadcast_frame (m : LineMsg) (s : State) :
    (postBroadcast m s).pending = s.pending ∧ (postBroadcast m s).free = s.free
    ∧ (postBroadcast m s).clock = s.clock ∧ (postBroadcast m s).engine = s.engine
    ∧ (postBroadcast m s).transport = s.transport ∧ (postBroadcast m s).lamp = s.lamp
    ∧ (postBroadcast m s).power = s.power ∧ (postBroadcast m s).deck = s.deck
    ∧ (postBroadcast m s).decoder = s.decoder ∧ (postBroadcast m s).writer = s.writer
    ∧ (postBroadcast m s).handset = s.handset ∧ (postBroadcast m s).path = s.path := by
  unfold postBroadcast
  (repeat' split) <;> simp

@[simp] theorem postAllDropped_frame  (x : List LineMsg) (s : State) :
    (postAllDropped x s).pending = s.pending ∧ (postAllDropped x s).free = s.free
    ∧ (postAllDropped x s).clock = s.clock ∧ (postAllDropped x s).engine = s.engine
    ∧ (postAllDropped x s).transport = s.transport ∧ (postAllDropped x s).lamp = s.lamp
    ∧ (postAllDropped x s).power = s.power ∧ (postAllDropped x s).deck = s.deck
    ∧ (postAllDropped x s).decoder = s.decoder ∧ (postAllDropped x s).writer = s.writer
    ∧ (postAllDropped x s).line = s.line ∧ (postAllDropped x s).handset = s.handset
    ∧ (postAllDropped x s).path = s.path := by
  induction x generalizing s with
  | nil => simp [postAllDropped]
  | cons c t ih => simp [postAllDropped, ih]

@[simp] theorem dropBroadcasts_frame (s : State) :
    (dropBroadcasts s).pending = s.pending ∧ (dropBroadcasts s).free = s.free ∧ (dropBroadcasts s).clock = s.clock
    ∧ (dropBroadcasts s).engine = s.engine ∧ (dropBroadcasts s).transport = s.transport
    ∧ (dropBroadcasts s).lamp = s.lamp ∧ (dropBroadcasts s).power = s.power ∧ (dropBroadcasts s).deck = s.deck
    ∧ (dropBroadcasts s).decoder = s.decoder ∧ (dropBroadcasts s).writer = s.writer
    ∧ (dropBroadcasts s).handset = s.handset ∧ (dropBroadcasts s).path = s.path := by simp [dropBroadcasts]

@[simp] theorem announce_frame (m : LineMsg) (s : State) :
    (announce m s).pending = s.pending ∧ (announce m s).free = s.free ∧ (announce m s).clock = s.clock
    ∧ (announce m s).engine = s.engine ∧ (announce m s).transport = s.transport ∧ (announce m s).lamp = s.lamp
    ∧ (announce m s).power = s.power ∧ (announce m s).deck = s.deck ∧ (announce m s).decoder = s.decoder
    ∧ (announce m s).writer = s.writer ∧ (announce m s).handset = s.handset ∧ (announce m s).path = s.path := by
  unfold announce
  split <;> simp

@[simp] theorem stationLost_frame (n : Nat) (st : Station) (s : State) :
    (stationLost n st s).pending = s.pending ∧ (stationLost n st s).free = s.free
    ∧ (stationLost n st s).clock = s.clock ∧ (stationLost n st s).engine = s.engine
    ∧ (stationLost n st s).transport = s.transport ∧ (stationLost n st s).lamp = s.lamp
    ∧ (stationLost n st s).power = s.power ∧ (stationLost n st s).deck = s.deck
    ∧ (stationLost n st s).decoder = s.decoder ∧ (stationLost n st s).writer = s.writer
    ∧ (stationLost n st s).line = s.line ∧ (stationLost n st s).handset = s.handset
    ∧ (stationLost n st s).path = s.path := by simp [stationLost]

@[simp] theorem dropStation_frame (n : Nat) (s : State) :
    (dropStation n s).pending = s.pending ∧ (dropStation n s).free = s.free ∧ (dropStation n s).clock = s.clock
    ∧ (dropStation n s).engine = s.engine ∧ (dropStation n s).transport = s.transport
    ∧ (dropStation n s).lamp = s.lamp ∧ (dropStation n s).power = s.power ∧ (dropStation n s).deck = s.deck
    ∧ (dropStation n s).decoder = s.decoder ∧ (dropStation n s).writer = s.writer
    ∧ (dropStation n s).handset = s.handset ∧ (dropStation n s).path = s.path := by
  unfold dropStation
  dsimp only
  split <;> simp

@[simp] theorem dropStations_frame (s : State) :
    (dropStations s).pending = s.pending ∧ (dropStations s).free = s.free ∧ (dropStations s).clock = s.clock
    ∧ (dropStations s).engine = s.engine ∧ (dropStations s).transport = s.transport ∧ (dropStations s).lamp = s.lamp
    ∧ (dropStations s).power = s.power ∧ (dropStations s).deck = s.deck ∧ (dropStations s).decoder = s.decoder
    ∧ (dropStations s).writer = s.writer ∧ (dropStations s).handset = s.handset ∧ (dropStations s).path = s.path := by simp [dropStations]

@[simp] theorem lineWithoutFollowers_frame (s : State) :
    (lineWithoutFollowers s).pending = s.pending ∧ (lineWithoutFollowers s).free = s.free
    ∧ (lineWithoutFollowers s).clock = s.clock ∧ (lineWithoutFollowers s).engine = s.engine
    ∧ (lineWithoutFollowers s).transport = s.transport ∧ (lineWithoutFollowers s).lamp = s.lamp
    ∧ (lineWithoutFollowers s).power = s.power ∧ (lineWithoutFollowers s).deck = s.deck
    ∧ (lineWithoutFollowers s).decoder = s.decoder ∧ (lineWithoutFollowers s).writer = s.writer
    ∧ (lineWithoutFollowers s).handset = s.handset ∧ (lineWithoutFollowers s).path = s.path := by simp [lineWithoutFollowers]

@[simp] theorem fillPolls_frame (s : State) :
    (fillPolls s).pending = s.pending ∧ (fillPolls s).free = s.free ∧ (fillPolls s).clock = s.clock
    ∧ (fillPolls s).engine = s.engine ∧ (fillPolls s).transport = s.transport ∧ (fillPolls s).lamp = s.lamp
    ∧ (fillPolls s).power = s.power ∧ (fillPolls s).deck = s.deck ∧ (fillPolls s).decoder = s.decoder
    ∧ (fillPolls s).writer = s.writer ∧ (fillPolls s).handset = s.handset ∧ (fillPolls s).log = s.log
    ∧ (fillPolls s).path = s.path := by
  unfold fillPolls
  (repeat' split) <;> simp

@[simp] theorem startLine_frame (s : State) :
    (startLine s).pending = s.pending ∧ (startLine s).free = s.free ∧ (startLine s).clock = s.clock
    ∧ (startLine s).engine = s.engine ∧ (startLine s).transport = s.transport ∧ (startLine s).lamp = s.lamp
    ∧ (startLine s).power = s.power ∧ (startLine s).deck = s.deck ∧ (startLine s).decoder = s.decoder
    ∧ (startLine s).writer = s.writer ∧ (startLine s).handset = s.handset ∧ (startLine s).log = s.log
    ∧ (startLine s).path = s.path := by simp [startLine]

@[simp] theorem enterPowering_frame (s : State) :
    (enterPowering s).pending = s.pending ∧ (enterPowering s).free = s.free ∧ (enterPowering s).clock = s.clock
    ∧ (enterPowering s).engine = s.engine ∧ (enterPowering s).transport = s.transport
    ∧ (enterPowering s).lamp = s.lamp ∧ (enterPowering s).power = s.power ∧ (enterPowering s).deck = s.deck
    ∧ (enterPowering s).decoder = s.decoder ∧ (enterPowering s).writer = s.writer
    ∧ (enterPowering s).handset = s.handset ∧ (enterPowering s).log = s.log ∧ (enterPowering s).path = s.path := by simp [enterPowering]

@[simp] theorem enterDetect_frame (s : State) :
    (enterDetect s).pending = s.pending ∧ (enterDetect s).free = s.free ∧ (enterDetect s).clock = s.clock
    ∧ (enterDetect s).engine = s.engine ∧ (enterDetect s).transport = s.transport ∧ (enterDetect s).lamp = s.lamp
    ∧ (enterDetect s).power = s.power ∧ (enterDetect s).deck = s.deck ∧ (enterDetect s).decoder = s.decoder
    ∧ (enterDetect s).writer = s.writer ∧ (enterDetect s).handset = s.handset ∧ (enterDetect s).log = s.log
    ∧ (enterDetect s).path = s.path := by simp [enterDetect]

/-! ### Sys2Proof/Machine/EngineOps.lean -/

@[simp] theorem limitPointer_frame (s : State) :
    (limitPointer s).pending = s.pending ∧ (limitPointer s).free = s.free ∧ (limitPointer s).clock = s.clock
    ∧ (limitPointer s).transport = s.transport ∧ (limitPointer s).lamp = s.lamp ∧ (limitPointer s).power = s.power
    ∧ (limitPointer s).deck = s.deck ∧ (limitPointer s).decoder = s.decoder ∧ (limitPointer s).writer = s.writer
    ∧ (limitPointer s).line = s.line ∧ (limitPointer s).handset = s.handset ∧ (limitPointer s).log = s.log
    ∧ (limitPointer s).path = s.path := by simp [limitPointer]

@[simp] theorem postCuesDropped_frame  (x : List Cue) (s : State) :
    (postCuesDropped x s).pending = s.pending ∧ (postCuesDropped x s).free = s.free
    ∧ (postCuesDropped x s).clock = s.clock ∧ (postCuesDropped x s).engine = s.engine
    ∧ (postCuesDropped x s).transport = s.transport ∧ (postCuesDropped x s).lamp = s.lamp
    ∧ (postCuesDropped x s).power = s.power ∧ (postCuesDropped x s).deck = s.deck
    ∧ (postCuesDropped x s).decoder = s.decoder ∧ (postCuesDropped x s).writer = s.writer
    ∧ (postCuesDropped x s).line = s.line ∧ (postCuesDropped x s).handset = s.handset
    ∧ (postCuesDropped x s).path = s.path := by
  induction x generalizing s with
  | nil => simp [postCuesDropped]
  | cons c t ih => simp [postCuesDropped, ih]

@[simp] theorem clearQueue_frame (s : State) :
    (clearQueue s).pending = s.pending ∧ (clearQueue s).free = s.free ∧ (clearQueue s).clock = s.clock
    ∧ (clearQueue s).transport = s.transport ∧ (clearQueue s).lamp = s.lamp ∧ (clearQueue s).power = s.power
    ∧ (clearQueue s).deck = s.deck ∧ (clearQueue s).decoder = s.decoder ∧ (clearQueue s).writer = s.writer
    ∧ (clearQueue s).line = s.line ∧ (clearQueue s).handset = s.handset ∧ (clearQueue s).path = s.path := by simp [clearQueue]

@[simp] theorem postCue_frame (src : CueSource) (k : CueKind) (start : Option Clock32) (s : State) :
    (postCue src k start s).1.pending = s.pending ∧ (postCue src k start s).1.free = s.free
    ∧ (postCue src k start s).1.clock = s.clock ∧ (postCue src k start s).1.transport = s.transport
    ∧ (postCue src k start s).1.lamp = s.lamp ∧ (postCue src k start s).1.power = s.power
    ∧ (postCue src k start s).1.deck = s.deck ∧ (postCue src k start s).1.decoder = s.decoder
    ∧ (postCue src k start s).1.writer = s.writer ∧ (postCue src k start s).1.line = s.line
    ∧ (postCue src k start s).1.handset = s.handset ∧ (postCue src k start s).1.path = s.path := by
  unfold postCue
  (repeat' split) <;> simp

@[simp] theorem noExecuting_frame (s : State) :
    (noExecuting s).pending = s.pending ∧ (noExecuting s).free = s.free ∧ (noExecuting s).clock = s.clock
    ∧ (noExecuting s).transport = s.transport ∧ (noExecuting s).lamp = s.lamp ∧ (noExecuting s).power = s.power
    ∧ (noExecuting s).deck = s.deck ∧ (noExecuting s).decoder = s.decoder ∧ (noExecuting s).writer = s.writer
    ∧ (noExecuting s).line = s.line ∧ (noExecuting s).handset = s.handset ∧ (noExecuting s).log = s.log
    ∧ (noExecuting s).path = s.path := by simp [noExecuting]

@[simp] theorem completeCue_frame (e : Executing) (s : State) :
    (completeCue e s).pending = s.pending ∧ (completeCue e s).free = s.free ∧ (completeCue e s).clock = s.clock
    ∧ (completeCue e s).transport = s.transport ∧ (completeCue e s).lamp = s.lamp
    ∧ (completeCue e s).power = s.power ∧ (completeCue e s).deck = s.deck ∧ (completeCue e s).decoder = s.decoder
    ∧ (completeCue e s).writer = s.writer ∧ (completeCue e s).line = s.line ∧ (completeCue e s).handset = s.handset
    ∧ (completeCue e s).path = s.path := by simp [completeCue]

@[simp] theorem postExecutingDropped_frame (e : Executing) (phase : Nat) (s : State) :
    (postExecutingDropped e phase s).pending = s.pending ∧ (postExecutingDropped e phase s).free = s.free
    ∧ (postExecutingDropped e phase s).clock = s.clock ∧ (postExecutingDropped e phase s).engine = s.engine
    ∧ (postExecutingDropped e phase s).transport = s.transport ∧ (postExecutingDropped e phase s).lamp = s.lamp
    ∧ (postExecutingDropped e phase s).power = s.power ∧ (postExecutingDropped e phase s).deck = s.deck
    ∧ (postExecutingDropped e phase s).decoder = s.decoder ∧ (postExecutingDropped e phase s).writer = s.writer
    ∧ (postExecutingDropped e phase s).line = s.line ∧ (postExecutingDropped e phase s).handset = s.handset
    ∧ (postExecutingDropped e phase s).path = s.path := by simp [postExecutingDropped]

@[simp] theorem finishStopping_frame (s : State) :
    (finishStopping s).pending = s.pending ∧ (finishStopping s).free = s.free ∧ (finishStopping s).clock = s.clock
    ∧ (finishStopping s).transport = s.transport ∧ (finishStopping s).power = s.power
    ∧ (finishStopping s).deck = s.deck ∧ (finishStopping s).decoder = s.decoder
    ∧ (finishStopping s).writer = s.writer ∧ (finishStopping s).line = s.line
    ∧ (finishStopping s).handset = s.handset ∧ (finishStopping s).log = s.log ∧ (finishStopping s).path = s.path := by
  unfold finishStopping
  dsimp only
  split <;> simp

@[simp] theorem stopAgain_frame (e : Executing) (s : State) :
    (stopAgain e s).pending = s.pending ∧ (stopAgain e s).free = s.free ∧ (stopAgain e s).clock = s.clock
    ∧ (stopAgain e s).engine = s.engine ∧ (stopAgain e s).transport = s.transport ∧ (stopAgain e s).power = s.power
    ∧ (stopAgain e s).deck = s.deck ∧ (stopAgain e s).decoder = s.decoder ∧ (stopAgain e s).writer = s.writer
    ∧ (stopAgain e s).line = s.line ∧ (stopAgain e s).handset = s.handset ∧ (stopAgain e s).log = s.log
    ∧ (stopAgain e s).path = s.path := by
  unfold stopAgain
  split <;> simp

@[simp] theorem stopExecuting_frame (s : State) :
    (stopExecuting s).pending = s.pending ∧ (stopExecuting s).free = s.free ∧ (stopExecuting s).clock = s.clock
    ∧ (stopExecuting s).transport = s.transport ∧ (stopExecuting s).power = s.power
    ∧ (stopExecuting s).deck = s.deck ∧ (stopExecuting s).decoder = s.decoder ∧ (stopExecuting s).writer = s.writer
    ∧ (stopExecuting s).line = s.line ∧ (stopExecuting s).handset = s.handset ∧ (stopExecuting s).path = s.path := by
  unfold stopExecuting
  (repeat' split) <;> simp

@[simp] theorem setRunState_frame (r : RunState) (s : State) :
    (setRunState r s).pending = s.pending ∧ (setRunState r s).free = s.free ∧ (setRunState r s).clock = s.clock
    ∧ (setRunState r s).transport = s.transport ∧ (setRunState r s).lamp = s.lamp
    ∧ (setRunState r s).power = s.power ∧ (setRunState r s).deck = s.deck ∧ (setRunState r s).decoder = s.decoder
    ∧ (setRunState r s).writer = s.writer ∧ (setRunState r s).line = s.line ∧ (setRunState r s).handset = s.handset
    ∧ (setRunState r s).log = s.log ∧ (setRunState r s).path = s.path := by simp [setRunState]

@[simp] theorem requestStart_frame (s : State) :
    (requestStart s).1.pending = s.pending ∧ (requestStart s).1.free = s.free ∧ (requestStart s).1.clock = s.clock
    ∧ (requestStart s).1.transport = s.transport ∧ (requestStart s).1.lamp = s.lamp
    ∧ (requestStart s).1.power = s.power ∧ (requestStart s).1.line = s.line ∧ (requestStart s).1.handset = s.handset
    ∧ (requestStart s).1.log = s.log ∧ (requestStart s).1.path = s.path := by
  unfold requestStart
  split <;> simp

@[simp] theorem requestHold_frame (s : State) :
    (requestHold s).1.pending = s.pending ∧ (requestHold s).1.free = s.free ∧ (requestHold s).1.clock = s.clock
    ∧ (requestHold s).1.transport = s.transport ∧ (requestHold s).1.lamp = s.lamp
    ∧ (requestHold s).1.power = s.power ∧ (requestHold s).1.handset = s.handset ∧ (requestHold s).1.path = s.path := by
  unfold requestHold
  split <;> simp

@[simp] theorem requestResume_frame (s : State) :
    (requestResume s).1.pending = s.pending ∧ (requestResume s).1.free = s.free
    ∧ (requestResume s).1.clock = s.clock ∧ (requestResume s).1.transport = s.transport
    ∧ (requestResume s).1.lamp = s.lamp ∧ (requestResume s).1.power = s.power
    ∧ (requestResume s).1.handset = s.handset ∧ (requestResume s).1.path = s.path := by
  unfold requestResume
  split <;> simp

@[simp] theorem requestLearn_frame (s : State) :
    (requestLearn s).1.pending = s.pending ∧ (requestLearn s).1.free = s.free ∧ (requestLearn s).1.clock = s.clock
    ∧ (requestLearn s).1.transport = s.transport ∧ (requestLearn s).1.lamp = s.lamp
    ∧ (requestLearn s).1.power = s.power ∧ (requestLearn s).1.line = s.line ∧ (requestLearn s).1.handset = s.handset
    ∧ (requestLearn s).1.log = s.log ∧ (requestLearn s).1.path = s.path := by
  unfold requestLearn
  split <;> simp

@[simp] theorem requestStop_frame (s : State) :
    (requestStop s).pending = s.pending ∧ (requestStop s).free = s.free ∧ (requestStop s).clock = s.clock
    ∧ (requestStop s).transport = s.transport ∧ (requestStop s).power = s.power
    ∧ (requestStop s).handset = s.handset ∧ (requestStop s).path = s.path := by simp [requestStop]

@[simp] theorem holdShow_frame (s : State) :
    (holdShow s).pending = s.pending ∧ (holdShow s).free = s.free ∧ (holdShow s).clock = s.clock
    ∧ (holdShow s).transport = s.transport ∧ (holdShow s).lamp = s.lamp ∧ (holdShow s).power = s.power
    ∧ (holdShow s).line = s.line ∧ (holdShow s).handset = s.handset ∧ (holdShow s).log = s.log
    ∧ (holdShow s).path = s.path := by
  unfold holdShow
  split <;> simp

@[simp] theorem holdAtTapeEnd_frame (s : State) :
    (holdAtTapeEnd s).pending = s.pending ∧ (holdAtTapeEnd s).free = s.free ∧ (holdAtTapeEnd s).clock = s.clock
    ∧ (holdAtTapeEnd s).transport = s.transport ∧ (holdAtTapeEnd s).lamp = s.lamp
    ∧ (holdAtTapeEnd s).power = s.power ∧ (holdAtTapeEnd s).deck = s.deck ∧ (holdAtTapeEnd s).decoder = s.decoder
    ∧ (holdAtTapeEnd s).writer = s.writer ∧ (holdAtTapeEnd s).line = s.line ∧ (holdAtTapeEnd s).handset = s.handset
    ∧ (holdAtTapeEnd s).log = s.log ∧ (holdAtTapeEnd s).path = s.path := by
  unfold holdAtTapeEnd
  split <;> simp

@[simp] theorem abortCycle_frame (s : State) :
    (abortCycle s).pending = s.pending ∧ (abortCycle s).free = s.free ∧ (abortCycle s).clock = s.clock
    ∧ (abortCycle s).transport = s.transport ∧ (abortCycle s).power = s.power ∧ (abortCycle s).line = s.line
    ∧ (abortCycle s).handset = s.handset ∧ (abortCycle s).path = s.path := by
  unfold abortCycle
  (repeat' split) <;> simp

@[simp] theorem enterFadingIn_frame (e : Executing) (s : State) :
    (enterFadingIn e s).pending = s.pending ∧ (enterFadingIn e s).free = s.free
    ∧ (enterFadingIn e s).clock = s.clock ∧ (enterFadingIn e s).transport = s.transport
    ∧ (enterFadingIn e s).power = s.power ∧ (enterFadingIn e s).deck = s.deck
    ∧ (enterFadingIn e s).decoder = s.decoder ∧ (enterFadingIn e s).writer = s.writer
    ∧ (enterFadingIn e s).line = s.line ∧ (enterFadingIn e s).handset = s.handset
    ∧ (enterFadingIn e s).path = s.path := by
  unfold enterFadingIn
  (repeat' split) <;> simp

@[simp] theorem cycleDone_frame (seat : Option Clock32) (s : State) :
    (cycleDone seat s).pending = s.pending ∧ (cycleDone seat s).free = s.free ∧ (cycleDone seat s).clock = s.clock
    ∧ (cycleDone seat s).transport = s.transport ∧ (cycleDone seat s).power = s.power
    ∧ (cycleDone seat s).deck = s.deck ∧ (cycleDone seat s).decoder = s.decoder
    ∧ (cycleDone seat s).writer = s.writer ∧ (cycleDone seat s).line = s.line
    ∧ (cycleDone seat s).handset = s.handset ∧ (cycleDone seat s).path = s.path := by
  unfold cycleDone
  dsimp only
  (repeat' split) <;> simp

@[simp] theorem dropStarted_frame (s : State) :
    (dropStarted s).pending = s.pending ∧ (dropStarted s).free = s.free ∧ (dropStarted s).clock = s.clock
    ∧ (dropStarted s).transport = s.transport ∧ (dropStarted s).power = s.power ∧ (dropStarted s).deck = s.deck
    ∧ (dropStarted s).decoder = s.decoder ∧ (dropStarted s).writer = s.writer ∧ (dropStarted s).line = s.line
    ∧ (dropStarted s).handset = s.handset ∧ (dropStarted s).path = s.path := by
  unfold dropStarted
  (repeat' split) <;> simp

/-! ### Sys2Proof/Machine/PowerOps.lean -/

@[simp] theorem setFan_frame (f : Nat) (s : State) :
    (setFan f s).pending = s.pending ∧ (setFan f s).free = s.free ∧ (setFan f s).clock = s.clock
    ∧ (setFan f s).engine = s.engine ∧ (setFan f s).transport = s.transport ∧ (setFan f s).lamp = s.lamp
    ∧ (setFan f s).deck = s.deck ∧ (setFan f s).decoder = s.decoder ∧ (setFan f s).writer = s.writer
    ∧ (setFan f s).line = s.line ∧ (setFan f s).handset = s.handset ∧ (setFan f s).log = s.log
    ∧ (setFan f s).path = s.path := by
  unfold setFan
  (repeat' split) <;> simp

@[simp] theorem stopFocus_frame (s : State) :
    (stopFocus s).pending = s.pending ∧ (stopFocus s).free = s.free ∧ (stopFocus s).clock = s.clock
    ∧ (stopFocus s).engine = s.engine ∧ (stopFocus s).lamp = s.lamp ∧ (stopFocus s).power = s.power
    ∧ (stopFocus s).deck = s.deck ∧ (stopFocus s).decoder = s.decoder ∧ (stopFocus s).writer = s.writer
    ∧ (stopFocus s).line = s.line ∧ (stopFocus s).handset = s.handset ∧ (stopFocus s).log = s.log
    ∧ (stopFocus s).path = s.path := by simp [stopFocus]

@[simp] theorem enterPower_frame (old st : PowerState) (s : State) :
    (enterPower old st s).pending = s.pending ∧ (enterPower old st s).free = s.free
    ∧ (enterPower old st s).clock = s.clock ∧ (enterPower old st s).engine = s.engine
    ∧ (enterPower old st s).transport = s.transport ∧ (enterPower old st s).lamp = s.lamp
    ∧ (enterPower old st s).deck = s.deck ∧ (enterPower old st s).decoder = s.decoder
    ∧ (enterPower old st s).writer = s.writer ∧ (enterPower old st s).line = s.line
    ∧ (enterPower old st s).handset = s.handset ∧ (enterPower old st s).log = s.log
    ∧ (enterPower old st s).path = s.path := by
  unfold enterPower
  (repeat' split) <;> simp

@[simp] theorem setPower_frame (st : PowerState) (cause : Nat) (s : State) :
    (setPower st cause s).pending = s.pending ∧ (setPower st cause s).free = s.free
    ∧ (setPower st cause s).clock = s.clock ∧ (setPower st cause s).engine = s.engine
    ∧ (setPower st cause s).lamp = s.lamp ∧ (setPower st cause s).deck = s.deck
    ∧ (setPower st cause s).decoder = s.decoder ∧ (setPower st cause s).writer = s.writer
    ∧ (setPower st cause s).line = s.line ∧ (setPower st cause s).handset = s.handset
    ∧ (setPower st cause s).path = s.path := by
  unfold setPower
  dsimp only
  split <;> simp

@[simp] theorem testShutdown_frame (s : State) :
    (testShutdown s).pending = s.pending ∧ (testShutdown s).free = s.free ∧ (testShutdown s).clock = s.clock
    ∧ (testShutdown s).engine = s.engine ∧ (testShutdown s).lamp = s.lamp ∧ (testShutdown s).deck = s.deck
    ∧ (testShutdown s).decoder = s.decoder ∧ (testShutdown s).writer = s.writer ∧ (testShutdown s).line = s.line
    ∧ (testShutdown s).handset = s.handset ∧ (testShutdown s).path = s.path := by
  unfold testShutdown
  split <;> simp

@[simp] theorem oweCooldown_frame (s : State) :
    (oweCooldown s).pending = s.pending ∧ (oweCooldown s).free = s.free ∧ (oweCooldown s).clock = s.clock
    ∧ (oweCooldown s).handset = s.handset ∧ (oweCooldown s).path = s.path := by
  unfold oweCooldown
  split <;> simp

end Sys2Proof.Machine
end

