-- ==== Sys2Proof/Laws/FrameUnits.lean ====
section
/-! SUPPORT. Which blocks of the state an operation leaves as they are, once for each of the operations of the
transport, the lamp, the handset logic and the line's stations. -/

namespace Sys2Proof.Machine

/-! ### Sys2Proof/Machine/TransportOps.lean -/

@[simp] theorem focusGuard_frame (s : State) :
    (focusGuard s).pending = s.pending ∧ (focusGuard s).free = s.free ∧ (focusGuard s).clock = s.clock
    ∧ (focusGuard s).engine = s.engine ∧ (focusGuard s).lamp = s.lamp ∧ (focusGuard s).power = s.power
    ∧ (focusGuard s).deck = s.deck ∧ (focusGuard s).decoder = s.decoder ∧ (focusGuard s).writer = s.writer
    ∧ (focusGuard s).line = s.line ∧ (focusGuard s).handset = s.handset ∧ (focusGuard s).log = s.log
    ∧ (focusGuard s).path = s.path := by
  unfold focusGuard
  split <;> simp

@[simp] theorem latchTable_frame (s : State) :
    (latchTable s).pending = s.pending ∧ (latchTable s).free = s.free ∧ (latchTable s).clock = s.clock
    ∧ (latchTable s).engine = s.engine ∧ (latchTable s).lamp = s.lamp ∧ (latchTable s).power = s.power
    ∧ (latchTable s).deck = s.deck ∧ (latchTable s).decoder = s.decoder ∧ (latchTable s).writer = s.writer
    ∧ (latchTable s).line = s.line ∧ (latchTable s).handset = s.handset ∧ (latchTable s).path = s.path := by
  unfold latchTable
  dsimp only
  split <;> simp

@[simp] theorem beginMove_frame (wait : MoveStatus) (v : Move) (s : State) :
    (beginMove wait v s).pending = s.pending ∧ (beginMove wait v s).free = s.free
    ∧ (beginMove wait v s).clock = s.clock ∧ (beginMove wait v s).engine = s.engine
    ∧ (beginMove wait v s).lamp = s.lamp ∧ (beginMove wait v s).power = s.power ∧ (beginMove wait v s).deck = s.deck
    ∧ (beginMove wait v s).decoder = s.decoder ∧ (beginMove wait v s).writer = s.writer
    ∧ (beginMove wait v s).line = s.line ∧ (beginMove wait v s).handset = s.handset
    ∧ (beginMove wait v s).log = s.log ∧ (beginMove wait v s).path = s.path := by
  unfold beginMove
  (repeat' split) <;> simp

@[simp] theorem stopMotors_frame (s : State) :
    (stopMotors s).pending = s.pending ∧ (stopMotors s).free = s.free ∧ (stopMotors s).clock = s.clock
    ∧ (stopMotors s).engine = s.engine ∧ (stopMotors s).lamp = s.lamp ∧ (stopMotors s).power = s.power
    ∧ (stopMotors s).deck = s.deck ∧ (stopMotors s).decoder = s.decoder ∧ (stopMotors s).writer = s.writer
    ∧ (stopMotors s).line = s.line ∧ (stopMotors s).handset = s.handset ∧ (stopMotors s).log = s.log
    ∧ (stopMotors s).path = s.path := by simp [stopMotors]

@[simp] theorem jam_frame (c : JamCause) (s : State) :
    (jam c s).pending = s.pending ∧ (jam c s).free = s.free ∧ (jam c s).clock = s.clock ∧ (jam c s).line = s.line
    ∧ (jam c s).handset = s.handset ∧ (jam c s).path = s.path := by simp [jam]

@[simp] theorem showErr_frame (s : State) :
    (showErr s).pending = s.pending ∧ (showErr s).free = s.free ∧ (showErr s).clock = s.clock
    ∧ (showErr s).engine = s.engine ∧ (showErr s).transport = s.transport ∧ (showErr s).lamp = s.lamp
    ∧ (showErr s).power = s.power ∧ (showErr s).deck = s.deck ∧ (showErr s).decoder = s.decoder
    ∧ (showErr s).writer = s.writer ∧ (showErr s).line = s.line ∧ (showErr s).log = s.log
    ∧ (showErr s).path = s.path := by simp [showErr]

@[simp] theorem postHandset_frame (k : CueKind) (s : State) :
    (postHandset k s).pending = s.pending ∧ (postHandset k s).free = s.free ∧ (postHandset k s).clock = s.clock
    ∧ (postHandset k s).transport = s.transport ∧ (postHandset k s).lamp = s.lamp
    ∧ (postHandset k s).power = s.power ∧ (postHandset k s).deck = s.deck ∧ (postHandset k s).decoder = s.decoder
    ∧ (postHandset k s).writer = s.writer ∧ (postHandset k s).line = s.line ∧ (postHandset k s).path = s.path := by
  unfold postHandset
  dsimp only
  split <;> simp

@[simp] theorem completeCycle_frame (s : State) :
    (completeCycle s).pending = s.pending ∧ (completeCycle s).free = s.free ∧ (completeCycle s).clock = s.clock
    ∧ (completeCycle s).deck = s.deck ∧ (completeCycle s).decoder = s.decoder ∧ (completeCycle s).writer = s.writer
    ∧ (completeCycle s).line = s.line ∧ (completeCycle s).path = s.path := by
  unfold completeCycle
  dsimp only
  (repeat' split) <;> simp

@[simp] theorem seatMade_frame (s : State) :
    (seatMade s).pending = s.pending ∧ (seatMade s).free = s.free ∧ (seatMade s).clock = s.clock
    ∧ (seatMade s).deck = s.deck ∧ (seatMade s).decoder = s.decoder ∧ (seatMade s).writer = s.writer
    ∧ (seatMade s).line = s.line ∧ (seatMade s).path = s.path := by simp [seatMade]

@[simp] theorem enterSeat_frame (s : State) :
    (enterSeat s).pending = s.pending ∧ (enterSeat s).free = s.free ∧ (enterSeat s).clock = s.clock
    ∧ (enterSeat s).deck = s.deck ∧ (enterSeat s).decoder = s.decoder ∧ (enterSeat s).writer = s.writer
    ∧ (enterSeat s).line = s.line ∧ (enterSeat s).path = s.path := by
  unfold enterSeat
  dsimp only
  (repeat' split) <;> simp

@[simp] theorem startRevolution_frame (s : State) :
    (startRevolution s).pending = s.pending ∧ (startRevolution s).free = s.free
    ∧ (startRevolution s).clock = s.clock ∧ (startRevolution s).engine = s.engine
    ∧ (startRevolution s).lamp = s.lamp ∧ (startRevolution s).power = s.power ∧ (startRevolution s).deck = s.deck
    ∧ (startRevolution s).decoder = s.decoder ∧ (startRevolution s).writer = s.writer
    ∧ (startRevolution s).line = s.line ∧ (startRevolution s).handset = s.handset ∧ (startRevolution s).log = s.log
    ∧ (startRevolution s).path = s.path := by simp [startRevolution]

@[simp] theorem enterDrop_frame (s : State) :
    (enterDrop s).pending = s.pending ∧ (enterDrop s).free = s.free ∧ (enterDrop s).clock = s.clock
    ∧ (enterDrop s).power = s.power ∧ (enterDrop s).deck = s.deck ∧ (enterDrop s).decoder = s.decoder
    ∧ (enterDrop s).writer = s.writer ∧ (enterDrop s).line = s.line ∧ (enterDrop s).handset = s.handset
    ∧ (enterDrop s).path = s.path := by simp [enterDrop]

@[simp] theorem moveEnded_frame (s : State) :
    (moveEnded s).pending = s.pending ∧ (moveEnded s).free = s.free ∧ (moveEnded s).clock = s.clock
    ∧ (moveEnded s).power = s.power ∧ (moveEnded s).deck = s.deck ∧ (moveEnded s).decoder = s.decoder
    ∧ (moveEnded s).writer = s.writer ∧ (moveEnded s).line = s.line ∧ (moveEnded s).handset = s.handset
    ∧ (moveEnded s).path = s.path := by
  unfold moveEnded
  dsimp only
  split <;> simp

@[simp] theorem liftCheck_frame (s : State) :
    (liftCheck s).pending = s.pending ∧ (liftCheck s).free = s.free ∧ (liftCheck s).clock = s.clock
    ∧ (liftCheck s).line = s.line ∧ (liftCheck s).handset = s.handset ∧ (liftCheck s).path = s.path := by
  unfold liftCheck
  split <;> simp

@[simp] theorem startNormal_frame (v : Transport → Move) (s : State) :
    (startNormal v s).pending = s.pending ∧ (startNormal v s).free = s.free ∧ (startNormal v s).clock = s.clock
    ∧ (startNormal v s).line = s.line ∧ (startNormal v s).handset = s.handset ∧ (startNormal v s).path = s.path := by
  unfold startNormal
  dsimp only
  (repeat' split) <;> simp

@[simp] theorem enterCycling_frame (target : Nat) (s : State) :
    (enterCycling target s).pending = s.pending ∧ (enterCycling target s).free = s.free
    ∧ (enterCycling target s).clock = s.clock ∧ (enterCycling target s).line = s.line
    ∧ (enterCycling target s).handset = s.handset ∧ (enterCycling target s).path = s.path := by simp [enterCycling]

@[simp] theorem startChange_frame (r : ChangeRequest) (s : State) :
    (startChange r s).pending = s.pending ∧ (startChange r s).free = s.free ∧ (startChange r s).clock = s.clock
    ∧ (startChange r s).line = s.line ∧ (startChange r s).handset = s.handset ∧ (startChange r s).path = s.path := by simp [startChange]

@[simp] theorem startHoming_frame (r : ChangeRequest) (s : State) :
    (startHoming r s).pending = s.pending ∧ (startHoming r s).free = s.free ∧ (startHoming r s).clock = s.clock
    ∧ (startHoming r s).line = s.line ∧ (startHoming r s).handset = s.handset ∧ (startHoming r s).path = s.path := by
  unfold startHoming
  dsimp only
  split <;> simp

@[simp] theorem changeRequest_frame (r : ChangeRequest) (s : State) :
    (changeRequest r s).pending = s.pending ∧ (changeRequest r s).free = s.free
    ∧ (changeRequest r s).clock = s.clock ∧ (changeRequest r s).line = s.line
    ∧ (changeRequest r s).handset = s.handset ∧ (changeRequest r s).path = s.path := by
  unfold changeRequest
  split <;> simp

@[simp] theorem enterChanging_frame (e : Executing) (s : State) :
    (enterChanging e s).pending = s.pending ∧ (enterChanging e s).free = s.free
    ∧ (enterChanging e s).clock = s.clock ∧ (enterChanging e s).line = s.line
    ∧ (enterChanging e s).handset = s.handset ∧ (enterChanging e s).path = s.path := by simp [enterChanging]

@[simp] theorem enterFadingOut_frame (e : Executing) (s : State) :
    (enterFadingOut e s).pending = s.pending ∧ (enterFadingOut e s).free = s.free
    ∧ (enterFadingOut e s).clock = s.clock ∧ (enterFadingOut e s).line = s.line
    ∧ (enterFadingOut e s).handset = s.handset ∧ (enterFadingOut e s).path = s.path := by
  unfold enterFadingOut
  split <;> simp

@[simp] theorem engineRampDone_frame (s : State) :
    (engineRampDone s).pending = s.pending ∧ (engineRampDone s).free = s.free ∧ (engineRampDone s).clock = s.clock
    ∧ (engineRampDone s).line = s.line ∧ (engineRampDone s).handset = s.handset ∧ (engineRampDone s).path = s.path := by
  unfold engineRampDone
  dsimp only
  (repeat' split) <;> simp

@[simp] theorem clearJam_frame (s : State) :
    (clearJam s).1.pending = s.pending ∧ (clearJam s).1.free = s.free ∧ (clearJam s).1.clock = s.clock
    ∧ (clearJam s).1.engine = s.engine ∧ (clearJam s).1.lamp = s.lamp ∧ (clearJam s).1.power = s.power
    ∧ (clearJam s).1.deck = s.deck ∧ (clearJam s).1.decoder = s.decoder ∧ (clearJam s).1.writer = s.writer
    ∧ (clearJam s).1.line = s.line ∧ (clearJam s).1.handset = s.handset ∧ (clearJam s).1.log = s.log
    ∧ (clearJam s).1.path = s.path := by
  unfold clearJam
  split <;> simp

@[simp] theorem sizeChange_frame (s : State) :
    (sizeChange s).pending = s.pending ∧ (sizeChange s).free = s.free ∧ (sizeChange s).clock = s.clock
    ∧ (sizeChange s).engine = s.engine ∧ (sizeChange s).lamp = s.lamp ∧ (sizeChange s).power = s.power
    ∧ (sizeChange s).deck = s.deck ∧ (sizeChange s).decoder = s.decoder ∧ (sizeChange s).writer = s.writer
    ∧ (sizeChange s).line = s.line ∧ (sizeChange s).handset = s.handset ∧ (sizeChange s).log = s.log
    ∧ (sizeChange s).path = s.path := by
  unfold sizeChange
  split <;> simp

@[simp] theorem focusReport_frame (r : FocusReport) (s : State) :
    (focusReport r s).pending = s.pending ∧ (focusReport r s).free = s.free ∧ (focusReport r s).clock = s.clock
    ∧ (focusReport r s).engine = s.engine ∧ (focusReport r s).lamp = s.lamp ∧ (focusReport r s).power = s.power
    ∧ (focusReport r s).deck = s.deck ∧ (focusReport r s).decoder = s.decoder ∧ (focusReport r s).writer = s.writer
    ∧ (focusReport r s).line = s.line ∧ (focusReport r s).handset = s.handset ∧ (focusReport r s).log = s.log
    ∧ (focusReport r s).path = s.path := by
  unfold focusReport
  dsimp only
  (repeat' split) <;> simp

/-! ### Sys2Proof/Machine/LampOps.lean -/

@[simp] theorem leftLit_frame (s : State) :
    (leftLit s).pending = s.pending ∧ (leftLit s).free = s.free ∧ (leftLit s).clock = s.clock
    ∧ (leftLit s).handset = s.handset ∧ (leftLit s).path = s.path := by
  unfold leftLit
  split <;> simp

@[simp] theorem leaveLit_frame (st : LampState) (s : State) :
    (leaveLit st s).pending = s.pending ∧ (leaveLit st s).free = s.free ∧ (leaveLit st s).clock = s.clock
    ∧ (leaveLit st s).handset = s.handset ∧ (leaveLit st s).path = s.path := by simp [leaveLit]

@[simp] theorem offRampDone_frame (s : State) :
    (offRampDone s).pending = s.pending ∧ (offRampDone s).free = s.free ∧ (offRampDone s).clock = s.clock
    ∧ (offRampDone s).handset = s.handset ∧ (offRampDone s).path = s.path := by
  unfold offRampDone
  split <;> simp

@[simp] theorem rampDone_frame (s : State) :
    (rampDone s).pending = s.pending ∧ (rampDone s).free = s.free ∧ (rampDone s).clock = s.clock
    ∧ (rampDone s).handset = s.handset ∧ (rampDone s).path = s.path := by
  unfold rampDone
  dsimp only
  split <;> simp

@[simp] theorem rampStage_frame (s : State) :
    (rampStage s).pending = s.pending ∧ (rampStage s).free = s.free ∧ (rampStage s).clock = s.clock
    ∧ (rampStage s).handset = s.handset ∧ (rampStage s).path = s.path := by
  unfold rampStage
  dsimp only
  (repeat' split) <;> simp

@[simp] theorem offRequest_frame (who : OffRequest) (t : Nat) (s : State) :
    (offRequest who t s).pending = s.pending ∧ (offRequest who t s).free = s.free
    ∧ (offRequest who t s).clock = s.clock ∧ (offRequest who t s).line = s.line
    ∧ (offRequest who t s).handset = s.handset ∧ (offRequest who t s).path = s.path := by
  unfold offRequest
  dsimp only
  (repeat' split) <;> simp

@[simp] theorem followCarriage_frame (s : State) :
    (followCarriage s).pending = s.pending ∧ (followCarriage s).free = s.free ∧ (followCarriage s).clock = s.clock
    ∧ (followCarriage s).engine = s.engine ∧ (followCarriage s).transport = s.transport
    ∧ (followCarriage s).power = s.power ∧ (followCarriage s).deck = s.deck ∧ (followCarriage s).decoder = s.decoder
    ∧ (followCarriage s).writer = s.writer ∧ (followCarriage s).line = s.line
    ∧ (followCarriage s).handset = s.handset ∧ (followCarriage s).log = s.log ∧ (followCarriage s).path = s.path := by
  unfold followCarriage
  split <;> simp

@[simp] theorem startSwap_frame (x : Socket) (failure : Bool) (s : State) :
    (startSwap x failure s).pending = s.pending ∧ (startSwap x failure s).free = s.free
    ∧ (startSwap x failure s).clock = s.clock ∧ (startSwap x failure s).engine = s.engine
    ∧ (startSwap x failure s).transport = s.transport ∧ (startSwap x failure s).power = s.power
    ∧ (startSwap x failure s).deck = s.deck ∧ (startSwap x failure s).decoder = s.decoder
    ∧ (startSwap x failure s).writer = s.writer ∧ (startSwap x failure s).line = s.line
    ∧ (startSwap x failure s).handset = s.handset ∧ (startSwap x failure s).log = s.log
    ∧ (startSwap x failure s).path = s.path := by simp [startSwap]

@[simp] theorem enterFault_frame (s : State) :
    (enterFault s).pending = s.pending ∧ (enterFault s).free = s.free ∧ (enterFault s).clock = s.clock
    ∧ (enterFault s).engine = s.engine ∧ (enterFault s).deck = s.deck ∧ (enterFault s).decoder = s.decoder
    ∧ (enterFault s).writer = s.writer ∧ (enterFault s).line = s.line ∧ (enterFault s).handset = s.handset
    ∧ (enterFault s).path = s.path := by simp [enterFault]

@[simp] theorem postNoLamp_frame (reason socket : Nat) (s : State) :
    (postNoLamp reason socket s).pending = s.pending ∧ (postNoLamp reason socket s).free = s.free
    ∧ (postNoLamp reason socket s).clock = s.clock ∧ (postNoLamp reason socket s).engine = s.engine
    ∧ (postNoLamp reason socket s).transport = s.transport ∧ (postNoLamp reason socket s).lamp = s.lamp
    ∧ (postNoLamp reason socket s).power = s.power ∧ (postNoLamp reason socket s).deck = s.deck
    ∧ (postNoLamp reason socket s).decoder = s.decoder ∧ (postNoLamp reason socket s).writer = s.writer
    ∧ (postNoLamp reason socket s).line = s.line ∧ (postNoLamp reason socket s).handset = s.handset
    ∧ (postNoLamp reason socket s).path = s.path := by simp [postNoLamp]

@[simp] theorem carriageArrived_frame (s : State) :
    (carriageArrived s).pending = s.pending ∧ (carriageArrived s).free = s.free
    ∧ (carriageArrived s).clock = s.clock ∧ (carriageArrived s).engine = s.engine
    ∧ (carriageArrived s).deck = s.deck ∧ (carriageArrived s).decoder = s.decoder
    ∧ (carriageArrived s).writer = s.writer ∧ (carriageArrived s).line = s.line
    ∧ (carriageArrived s).handset = s.handset ∧ (carriageArrived s).path = s.path := by
  unfold carriageArrived
  dsimp only
  (repeat' split) <;> simp

@[simp] theorem socketFails_frame (kind : Failure) (s : State) :
    (socketFails kind s).pending = s.pending ∧ (socketFails kind s).free = s.free
    ∧ (socketFails kind s).clock = s.clock ∧ (socketFails kind s).handset = s.handset
    ∧ (socketFails kind s).path = s.path := by
  unfold socketFails
  dsimp only
  split <;> simp

@[simp] theorem lampOn_frame (s : State) :
    (lampOn s).1.pending = s.pending ∧ (lampOn s).1.free = s.free ∧ (lampOn s).1.clock = s.clock
    ∧ (lampOn s).1.engine = s.engine ∧ (lampOn s).1.transport = s.transport ∧ (lampOn s).1.power = s.power
    ∧ (lampOn s).1.deck = s.deck ∧ (lampOn s).1.decoder = s.decoder ∧ (lampOn s).1.writer = s.writer
    ∧ (lampOn s).1.line = s.line ∧ (lampOn s).1.handset = s.handset ∧ (lampOn s).1.path = s.path := by
  unfold lampOn
  (repeat' split) <;> simp

@[simp] theorem lampOff_frame (s : State) :
    (lampOff s).pending = s.pending ∧ (lampOff s).free = s.free ∧ (lampOff s).clock = s.clock
    ∧ (lampOff s).line = s.line ∧ (lampOff s).handset = s.handset ∧ (lampOff s).path = s.path := by simp [lampOff]

@[simp] theorem lampReplaced_frame (a : Nat) (s : State) :
    (lampReplaced a s).1.pending = s.pending ∧ (lampReplaced a s).1.free = s.free
    ∧ (lampReplaced a s).1.clock = s.clock ∧ (lampReplaced a s).1.engine = s.engine
    ∧ (lampReplaced a s).1.transport = s.transport ∧ (lampReplaced a s).1.power = s.power
    ∧ (lampReplaced a s).1.deck = s.deck ∧ (lampReplaced a s).1.decoder = s.decoder
    ∧ (lampReplaced a s).1.writer = s.writer ∧ (lampReplaced a s).1.line = s.line
    ∧ (lampReplaced a s).1.handset = s.handset ∧ (lampReplaced a s).1.log = s.log
    ∧ (lampReplaced a s).1.path = s.path := by
  unfold lampReplaced
  split <;> simp

@[simp] theorem postLowSupply_frame (vs : Nat) (s : State) :
    (postLowSupply vs s).pending = s.pending ∧ (postLowSupply vs s).free = s.free
    ∧ (postLowSupply vs s).clock = s.clock ∧ (postLowSupply vs s).engine = s.engine
    ∧ (postLowSupply vs s).transport = s.transport ∧ (postLowSupply vs s).lamp = s.lamp
    ∧ (postLowSupply vs s).power = s.power ∧ (postLowSupply vs s).deck = s.deck
    ∧ (postLowSupply vs s).decoder = s.decoder ∧ (postLowSupply vs s).writer = s.writer
    ∧ (postLowSupply vs s).line = s.line ∧ (postLowSupply vs s).handset = s.handset
    ∧ (postLowSupply vs s).path = s.path := by simp [postLowSupply]

@[simp] theorem countLowSupply_frame (vs : Nat) (s : State) :
    (countLowSupply vs s).pending = s.pending ∧ (countLowSupply vs s).free = s.free
    ∧ (countLowSupply vs s).clock = s.clock ∧ (countLowSupply vs s).engine = s.engine
    ∧ (countLowSupply vs s).transport = s.transport ∧ (countLowSupply vs s).power = s.power
    ∧ (countLowSupply vs s).deck = s.deck ∧ (countLowSupply vs s).decoder = s.decoder
    ∧ (countLowSupply vs s).writer = s.writer ∧ (countLowSupply vs s).line = s.line
    ∧ (countLowSupply vs s).handset = s.handset ∧ (countLowSupply vs s).path = s.path := by
  unfold countLowSupply
  (repeat' split) <;> simp

@[simp] theorem dutyStage_frame (vs : Nat) (s : State) :
    (dutyStage vs s).pending = s.pending ∧ (dutyStage vs s).free = s.free ∧ (dutyStage vs s).clock = s.clock
    ∧ (dutyStage vs s).engine = s.engine ∧ (dutyStage vs s).transport = s.transport
    ∧ (dutyStage vs s).power = s.power ∧ (dutyStage vs s).deck = s.deck ∧ (dutyStage vs s).decoder = s.decoder
    ∧ (dutyStage vs s).writer = s.writer ∧ (dutyStage vs s).line = s.line ∧ (dutyStage vs s).handset = s.handset
    ∧ (dutyStage vs s).path = s.path := by
  unfold dutyStage
  split <;> simp

@[simp] theorem currentTest_frame (im : Nat) (s : State) :
    (currentTest im s).pending = s.pending ∧ (currentTest im s).free = s.free ∧ (currentTest im s).clock = s.clock
    ∧ (currentTest im s).handset = s.handset ∧ (currentTest im s).path = s.path := by
  unfold currentTest
  (repeat' split) <;> simp

@[simp] theorem countUsage_frame (s : State) :
    (countUsage s).pending = s.pending ∧ (countUsage s).free = s.free ∧ (countUsage s).clock = s.clock
    ∧ (countUsage s).engine = s.engine ∧ (countUsage s).transport = s.transport ∧ (countUsage s).power = s.power
    ∧ (countUsage s).deck = s.deck ∧ (countUsage s).decoder = s.decoder ∧ (countUsage s).writer = s.writer
    ∧ (countUsage s).line = s.line ∧ (countUsage s).handset = s.handset ∧ (countUsage s).log = s.log
    ∧ (countUsage s).path = s.path := by simp [countUsage]

@[simp] theorem handDuty_frame (s : State) :
    (handDuty s).pending = s.pending ∧ (handDuty s).free = s.free ∧ (handDuty s).clock = s.clock
    ∧ (handDuty s).engine = s.engine ∧ (handDuty s).transport = s.transport ∧ (handDuty s).lamp = s.lamp
    ∧ (handDuty s).deck = s.deck ∧ (handDuty s).decoder = s.decoder ∧ (handDuty s).writer = s.writer
    ∧ (handDuty s).line = s.line ∧ (handDuty s).handset = s.handset ∧ (handDuty s).log = s.log
    ∧ (handDuty s).path = s.path := by simp [handDuty]

@[simp] theorem shutdownFromOn_frame (cause : Nat) (s : State) :
    (shutdownFromOn cause s).pending = s.pending ∧ (shutdownFromOn cause s).free = s.free
    ∧ (shutdownFromOn cause s).clock = s.clock ∧ (shutdownFromOn cause s).handset = s.handset
    ∧ (shutdownFromOn cause s).path = s.path := by simp [shutdownFromOn]

@[simp] theorem leaveRunup_frame (cause : Nat) (s : State) :
    (leaveRunup cause s).pending = s.pending ∧ (leaveRunup cause s).free = s.free
    ∧ (leaveRunup cause s).clock = s.clock ∧ (leaveRunup cause s).handset = s.handset
    ∧ (leaveRunup cause s).path = s.path := by
  unfold leaveRunup
  split <;> simp

@[simp] theorem returnToOn_frame (cause : Nat) (s : State) :
    (returnToOn cause s).pending = s.pending ∧ (returnToOn cause s).free = s.free
    ∧ (returnToOn cause s).clock = s.clock ∧ (returnToOn cause s).engine = s.engine
    ∧ (returnToOn cause s).lamp = s.lamp ∧ (returnToOn cause s).deck = s.deck
    ∧ (returnToOn cause s).decoder = s.decoder ∧ (returnToOn cause s).writer = s.writer
    ∧ (returnToOn cause s).line = s.line ∧ (returnToOn cause s).handset = s.handset
    ∧ (returnToOn cause s).path = s.path := by simp [returnToOn]

@[simp] theorem supplyGood_frame (s : State) :
    (supplyGood s).pending = s.pending ∧ (supplyGood s).free = s.free ∧ (supplyGood s).clock = s.clock
    ∧ (supplyGood s).engine = s.engine ∧ (supplyGood s).lamp = s.lamp ∧ (supplyGood s).deck = s.deck
    ∧ (supplyGood s).decoder = s.decoder ∧ (supplyGood s).writer = s.writer ∧ (supplyGood s).line = s.line
    ∧ (supplyGood s).handset = s.handset ∧ (supplyGood s).path = s.path := by simp [supplyGood]

@[simp] theorem runupReading_frame (vs : Nat) (s : State) :
    (runupReading vs s).pending = s.pending ∧ (runupReading vs s).free = s.free
    ∧ (runupReading vs s).clock = s.clock ∧ (runupReading vs s).engine = s.engine
    ∧ (runupReading vs s).lamp = s.lamp ∧ (runupReading vs s).deck = s.deck
    ∧ (runupReading vs s).decoder = s.decoder ∧ (runupReading vs s).writer = s.writer
    ∧ (runupReading vs s).line = s.line ∧ (runupReading vs s).handset = s.handset
    ∧ (runupReading vs s).path = s.path := by
  unfold runupReading
  dsimp only
  (repeat' split) <;> simp

@[simp] theorem powerOnRequest_frame (cause : Nat) (s : State) :
    (powerOnRequest cause s).1.pending = s.pending ∧ (powerOnRequest cause s).1.free = s.free
    ∧ (powerOnRequest cause s).1.clock = s.clock ∧ (powerOnRequest cause s).1.engine = s.engine
    ∧ (powerOnRequest cause s).1.lamp = s.lamp ∧ (powerOnRequest cause s).1.deck = s.deck
    ∧ (powerOnRequest cause s).1.decoder = s.decoder ∧ (powerOnRequest cause s).1.writer = s.writer
    ∧ (powerOnRequest cause s).1.line = s.line ∧ (powerOnRequest cause s).1.handset = s.handset
    ∧ (powerOnRequest cause s).1.path = s.path := by
  unfold powerOnRequest
  split <;> simp

@[simp] theorem powerOffRequest_frame (cause : Nat) (s : State) :
    (powerOffRequest cause s).1.pending = s.pending ∧ (powerOffRequest cause s).1.free = s.free
    ∧ (powerOffRequest cause s).1.clock = s.clock ∧ (powerOffRequest cause s).1.handset = s.handset
    ∧ (powerOffRequest cause s).1.path = s.path := by
  unfold powerOffRequest
  split <;> simp

@[simp] theorem powerKeyPressed_frame (s : State) :
    (powerKeyPressed s).pending = s.pending ∧ (powerKeyPressed s).free = s.free
    ∧ (powerKeyPressed s).clock = s.clock ∧ (powerKeyPressed s).handset = s.handset
    ∧ (powerKeyPressed s).path = s.path := by
  unfold powerKeyPressed
  split <;> simp

/-! ### Sys2Proof/Machine/HandsetOps.lean -/

@[simp] theorem setEntry_frame (e : List Nat) (s : State) :
    (setEntry e s).pending = s.pending ∧ (setEntry e s).free = s.free ∧ (setEntry e s).clock = s.clock
    ∧ (setEntry e s).engine = s.engine ∧ (setEntry e s).transport = s.transport ∧ (setEntry e s).lamp = s.lamp
    ∧ (setEntry e s).power = s.power ∧ (setEntry e s).deck = s.deck ∧ (setEntry e s).decoder = s.decoder
    ∧ (setEntry e s).writer = s.writer ∧ (setEntry e s).line = s.line ∧ (setEntry e s).log = s.log
    ∧ (setEntry e s).path = s.path := by simp [setEntry]

@[simp] theorem keyGo_frame (s : State) :
    (keyGo s).pending = s.pending ∧ (keyGo s).free = s.free ∧ (keyGo s).clock = s.clock
    ∧ (keyGo s).transport = s.transport ∧ (keyGo s).lamp = s.lamp ∧ (keyGo s).power = s.power
    ∧ (keyGo s).deck = s.deck ∧ (keyGo s).decoder = s.decoder ∧ (keyGo s).writer = s.writer
    ∧ (keyGo s).line = s.line ∧ (keyGo s).path = s.path := by
  unfold keyGo
  dsimp only
  (repeat' split) <;> simp

@[simp] theorem keyRunHold_frame (s : State) :
    (keyRunHold s).pending = s.pending ∧ (keyRunHold s).free = s.free ∧ (keyRunHold s).clock = s.clock
    ∧ (keyRunHold s).transport = s.transport ∧ (keyRunHold s).lamp = s.lamp ∧ (keyRunHold s).power = s.power
    ∧ (keyRunHold s).path = s.path := by
  unfold keyRunHold
  split <;> simp

@[simp] theorem keyLamp_frame (s : State) :
    (keyLamp s).pending = s.pending ∧ (keyLamp s).free = s.free ∧ (keyLamp s).clock = s.clock
    ∧ (keyLamp s).engine = s.engine ∧ (keyLamp s).transport = s.transport ∧ (keyLamp s).power = s.power
    ∧ (keyLamp s).deck = s.deck ∧ (keyLamp s).decoder = s.decoder ∧ (keyLamp s).writer = s.writer
    ∧ (keyLamp s).line = s.line ∧ (keyLamp s).path = s.path := by
  unfold keyLamp
  dsimp only
  (repeat' split) <;> simp

@[simp] theorem keyEffect_frame (s : State) (x : Key) :
    (keyEffect s x).pending = s.pending ∧ (keyEffect s x).free = s.free ∧ (keyEffect s x).clock = s.clock
    ∧ (keyEffect s x).power = s.power ∧ (keyEffect s x).path = s.path := by
  unfold keyEffect
  split <;> simp

@[simp] theorem restartEntryTimer_frame (s : State) :
    (restartEntryTimer s).pending = s.pending ∧ (restartEntryTimer s).free = s.free
    ∧ (restartEntryTimer s).clock = s.clock ∧ (restartEntryTimer s).engine = s.engine
    ∧ (restartEntryTimer s).transport = s.transport ∧ (restartEntryTimer s).lamp = s.lamp
    ∧ (restartEntryTimer s).power = s.power ∧ (restartEntryTimer s).deck = s.deck
    ∧ (restartEntryTimer s).decoder = s.decoder ∧ (restartEntryTimer s).writer = s.writer
    ∧ (restartEntryTimer s).line = s.line ∧ (restartEntryTimer s).log = s.log ∧ (restartEntryTimer s).path = s.path := by simp [restartEntryTimer]

@[simp] theorem pressKey_frame (k : Key) (s : State) :
    (pressKey k s).pending = s.pending ∧ (pressKey k s).free = s.free ∧ (pressKey k s).clock = s.clock
    ∧ (pressKey k s).power = s.power ∧ (pressKey k s).path = s.path := by simp [pressKey]

@[simp] theorem repeatAt_frame (pressed : Bool) (r : HandsetReport) (s : State) :
    (repeatAt pressed r s).pending = s.pending ∧ (repeatAt pressed r s).free = s.free
    ∧ (repeatAt pressed r s).clock = s.clock ∧ (repeatAt pressed r s).engine = s.engine
    ∧ (repeatAt pressed r s).transport = s.transport ∧ (repeatAt pressed r s).lamp = s.lamp
    ∧ (repeatAt pressed r s).power = s.power ∧ (repeatAt pressed r s).deck = s.deck
    ∧ (repeatAt pressed r s).decoder = s.decoder ∧ (repeatAt pressed r s).writer = s.writer
    ∧ (repeatAt pressed r s).line = s.line ∧ (repeatAt pressed r s).log = s.log
    ∧ (repeatAt pressed r s).path = s.path := by
  unfold repeatAt
  (repeat' split) <;> simp

@[simp] theorem recordReport_frame (r : HandsetReport) (s : State) :
    (recordReport r s).pending = s.pending ∧ (recordReport r s).free = s.free ∧ (recordReport r s).clock = s.clock
    ∧ (recordReport r s).engine = s.engine ∧ (recordReport r s).transport = s.transport
    ∧ (recordReport r s).lamp = s.lamp ∧ (recordReport r s).power = s.power ∧ (recordReport r s).deck = s.deck
    ∧ (recordReport r s).decoder = s.decoder ∧ (recordReport r s).writer = s.writer
    ∧ (recordReport r s).line = s.line ∧ (recordReport r s).log = s.log ∧ (recordReport r s).path = s.path := by simp [recordReport]

@[simp] theorem handsetReport_frame (r : HandsetReport) (s : State) :
    (handsetReport r s).pending = s.pending ∧ (handsetReport r s).free = s.free
    ∧ (handsetReport r s).clock = s.clock ∧ (handsetReport r s).power = s.power ∧ (handsetReport r s).path = s.path := by
  unfold handsetReport
  dsimp only
  (repeat' split) <;> simp

@[simp] theorem handsetRoleChange_frame (s : State) :
    (handsetRoleChange s).pending = s.pending ∧ (handsetRoleChange s).free = s.free
    ∧ (handsetRoleChange s).clock = s.clock ∧ (handsetRoleChange s).engine = s.engine
    ∧ (handsetRoleChange s).lamp = s.lamp ∧ (handsetRoleChange s).power = s.power
    ∧ (handsetRoleChange s).deck = s.deck ∧ (handsetRoleChange s).decoder = s.decoder
    ∧ (handsetRoleChange s).writer = s.writer ∧ (handsetRoleChange s).line = s.line
    ∧ (handsetRoleChange s).log = s.log ∧ (handsetRoleChange s).path = s.path := by simp [handsetRoleChange]

/-! ### Sys2Proof/Machine/StationOps.lean -/

@[simp] theorem leavePowered_frame (st : LineState) (s : State) :
    (leavePowered st s).pending = s.pending ∧ (leavePowered st s).free = s.free
    ∧ (leavePowered st s).clock = s.clock ∧ (leavePowered st s).power = s.power ∧ (leavePowered st s).path = s.path := by
  unfold leavePowered
  split <;> simp

@[simp] theorem enterOff_frame (s : State) :
    (enterOff s).pending = s.pending ∧ (enterOff s).free = s.free ∧ (enterOff s).clock = s.clock
    ∧ (enterOff s).engine = s.engine ∧ (enterOff s).transport = s.transport ∧ (enterOff s).lamp = s.lamp
    ∧ (enterOff s).power = s.power ∧ (enterOff s).deck = s.deck ∧ (enterOff s).decoder = s.decoder
    ∧ (enterOff s).writer = s.writer ∧ (enterOff s).handset = s.handset ∧ (enterOff s).log = s.log
    ∧ (enterOff s).path = s.path := by simp [enterOff]

@[simp] theorem overcurrent_frame (s : State) :
    (overcurrent s).pending = s.pending ∧ (overcurrent s).free = s.free ∧ (overcurrent s).clock = s.clock
    ∧ (overcurrent s).power = s.power ∧ (overcurrent s).path = s.path := by
  unfold overcurrent
  dsimp only
  split <;> simp

@[simp] theorem noAnswer_frame (s : State) :
    (noAnswer s).pending = s.pending ∧ (noAnswer s).free = s.free ∧ (noAnswer s).clock = s.clock
    ∧ (noAnswer s).power = s.power ∧ (noAnswer s).path = s.path := by simp [noAnswer]

@[simp] theorem lineReset_frame (s : State) :
    (lineReset s).1.pending = s.pending ∧ (lineReset s).1.free = s.free ∧ (lineReset s).1.clock = s.clock
    ∧ (lineReset s).1.power = s.power ∧ (lineReset s).1.path = s.path := by
  unfold lineReset
  (repeat' split) <;> simp

@[simp] theorem reportData_frame (n : Nat) (d : List Byte) (s : State) :
    (reportData n d s).pending = s.pending ∧ (reportData n d s).free = s.free ∧ (reportData n d s).clock = s.clock
    ∧ (reportData n d s).power = s.power ∧ (reportData n d s).path = s.path := by
  unfold reportData
  split <;> simp

@[simp] theorem goodReply_frame (n : Nat) (d : List Byte) (s : State) :
    (goodReply n d s).pending = s.pending ∧ (goodReply n d s).free = s.free ∧ (goodReply n d s).clock = s.clock
    ∧ (goodReply n d s).power = s.power ∧ (goodReply n d s).path = s.path := by simp [goodReply]

@[simp] theorem missedReply_frame (n : Nat) (s : State) :
    (missedReply n s).pending = s.pending ∧ (missedReply n s).free = s.free ∧ (missedReply n s).clock = s.clock
    ∧ (missedReply n s).power = s.power ∧ (missedReply n s).path = s.path := by
  unfold missedReply
  dsimp only
  (repeat' split) <;> simp

@[simp] theorem takeReply_frame (rx : LineRx) (n : Nat) (s : State) :
    (takeReply rx n s).pending = s.pending ∧ (takeReply rx n s).free = s.free ∧ (takeReply rx n s).clock = s.clock
    ∧ (takeReply rx n s).power = s.power ∧ (takeReply rx n s).path = s.path := by
  unfold takeReply
  (repeat' split) <;> simp

@[simp] theorem restartLine_frame (r : Role) (s : State) :
    (restartLine r s).pending = s.pending ∧ (restartLine r s).free = s.free ∧ (restartLine r s).clock = s.clock
    ∧ (restartLine r s).power = s.power ∧ (restartLine r s).path = s.path := by
  unfold restartLine
  split <;> simp

@[simp] theorem roleChange_frame (r : Role) (s : State) :
    (roleChange r s).pending = s.pending ∧ (roleChange r s).free = s.free ∧ (roleChange r s).clock = s.clock
    ∧ (roleChange r s).power = s.power ∧ (roleChange r s).path = s.path := by simp [roleChange]

@[simp] theorem followerCountChange_frame (old : Nat) (s : State) :
    (followerCountChange old s).pending = s.pending ∧ (followerCountChange old s).free = s.free
    ∧ (followerCountChange old s).clock = s.clock ∧ (followerCountChange old s).engine = s.engine
    ∧ (followerCountChange old s).transport = s.transport ∧ (followerCountChange old s).lamp = s.lamp
    ∧ (followerCountChange old s).power = s.power ∧ (followerCountChange old s).deck = s.deck
    ∧ (followerCountChange old s).decoder = s.decoder ∧ (followerCountChange old s).writer = s.writer
    ∧ (followerCountChange old s).handset = s.handset ∧ (followerCountChange old s).log = s.log
    ∧ (followerCountChange old s).path = s.path := by
  unfold followerCountChange
  dsimp only
  (repeat' split) <;> simp

end Sys2Proof.Machine
end

