-- ==== Sys2Proof/Laws/FrameCommands.lean ====
section
/-! SUPPORT. Which blocks of the state an operation leaves as they are, once for each of the operations of the
decoder, the memory path and the commands. -/

namespace Sys2Proof.Machine

/-! ### Sys2Proof/Machine/DecoderOps.lean -/

@[simp] theorem timeMark_frame (sec : Nat) (s : State) :
    (timeMark sec s).pending = s.pending ∧ (timeMark sec s).free = s.free ∧ (timeMark sec s).clock = s.clock
    ∧ (timeMark sec s).engine = s.engine ∧ (timeMark sec s).transport = s.transport ∧ (timeMark sec s).lamp = s.lamp
    ∧ (timeMark sec s).power = s.power ∧ (timeMark sec s).decoder = s.decoder ∧ (timeMark sec s).writer = s.writer
    ∧ (timeMark sec s).line = s.line ∧ (timeMark sec s).handset = s.handset ∧ (timeMark sec s).log = s.log
    ∧ (timeMark sec s).path = s.path := by simp [timeMark]

@[simp] theorem deliver_frame (f : CueFrame) (s : State) :
    (deliver f s).pending = s.pending ∧ (deliver f s).free = s.free ∧ (deliver f s).clock = s.clock
    ∧ (deliver f s).transport = s.transport ∧ (deliver f s).lamp = s.lamp ∧ (deliver f s).power = s.power
    ∧ (deliver f s).decoder = s.decoder ∧ (deliver f s).writer = s.writer ∧ (deliver f s).line = s.line
    ∧ (deliver f s).handset = s.handset ∧ (deliver f s).path = s.path := by
  unfold deliver
  split <;> simp

@[simp] theorem completeFrame_frame (f : CueFrame) (t : Clock32) (s : State) :
    (completeFrame f t s).pending = s.pending ∧ (completeFrame f t s).free = s.free
    ∧ (completeFrame f t s).clock = s.clock ∧ (completeFrame f t s).transport = s.transport
    ∧ (completeFrame f t s).lamp = s.lamp ∧ (completeFrame f t s).power = s.power
    ∧ (completeFrame f t s).writer = s.writer ∧ (completeFrame f t s).line = s.line
    ∧ (completeFrame f t s).handset = s.handset ∧ (completeFrame f t s).path = s.path := by
  unfold completeFrame
  dsimp only
  (repeat' split) <;> simp

@[simp] theorem takeBit_frame (b : Bool) (t : Clock32) (s : State) :
    (takeBit b t s).pending = s.pending ∧ (takeBit b t s).free = s.free ∧ (takeBit b t s).clock = s.clock
    ∧ (takeBit b t s).transport = s.transport ∧ (takeBit b t s).lamp = s.lamp ∧ (takeBit b t s).power = s.power
    ∧ (takeBit b t s).writer = s.writer ∧ (takeBit b t s).line = s.line ∧ (takeBit b t s).handset = s.handset
    ∧ (takeBit b t s).path = s.path := by
  unfold takeBit
  dsimp only
  (repeat' split) <;> simp

@[simp] theorem completeBit_frame (b : Bool) (m : Nat) (t : Clock32) (s : State) :
    (completeBit b m t s).pending = s.pending ∧ (completeBit b m t s).free = s.free
    ∧ (completeBit b m t s).clock = s.clock ∧ (completeBit b m t s).transport = s.transport
    ∧ (completeBit b m t s).lamp = s.lamp ∧ (completeBit b m t s).power = s.power
    ∧ (completeBit b m t s).writer = s.writer ∧ (completeBit b m t s).line = s.line
    ∧ (completeBit b m t s).handset = s.handset ∧ (completeBit b m t s).path = s.path := by simp [completeBit]

@[simp] theorem dataTake_frame (i : Nat) (t : Clock32) (s : State) :
    (dataTake i t s).pending = s.pending ∧ (dataTake i t s).free = s.free ∧ (dataTake i t s).clock = s.clock
    ∧ (dataTake i t s).transport = s.transport ∧ (dataTake i t s).lamp = s.lamp ∧ (dataTake i t s).power = s.power
    ∧ (dataTake i t s).writer = s.writer ∧ (dataTake i t s).line = s.line ∧ (dataTake i t s).handset = s.handset
    ∧ (dataTake i t s).path = s.path := by
  unfold dataTake
  split <;> simp

@[simp] theorem takeInterval_frame (i : Nat) (t : Clock32) (s : State) :
    (takeInterval i t s).pending = s.pending ∧ (takeInterval i t s).free = s.free
    ∧ (takeInterval i t s).clock = s.clock ∧ (takeInterval i t s).transport = s.transport
    ∧ (takeInterval i t s).lamp = s.lamp ∧ (takeInterval i t s).power = s.power
    ∧ (takeInterval i t s).writer = s.writer ∧ (takeInterval i t s).line = s.line
    ∧ (takeInterval i t s).handset = s.handset ∧ (takeInterval i t s).path = s.path := by
  unfold takeInterval
  split <;> simp

@[simp] theorem takeEdge_frame (t : Clock32) (s : State) :
    (takeEdge t s).pending = s.pending ∧ (takeEdge t s).free = s.free ∧ (takeEdge t s).clock = s.clock
    ∧ (takeEdge t s).transport = s.transport ∧ (takeEdge t s).lamp = s.lamp ∧ (takeEdge t s).power = s.power
    ∧ (takeEdge t s).writer = s.writer ∧ (takeEdge t s).line = s.line ∧ (takeEdge t s).handset = s.handset
    ∧ (takeEdge t s).path = s.path := by
  unfold takeEdge
  split <;> simp

@[simp] theorem takeEdges_frame  (x : List Clock32) (s : State) :
    (takeEdges x s).pending = s.pending ∧ (takeEdges x s).free = s.free ∧ (takeEdges x s).clock = s.clock
    ∧ (takeEdges x s).transport = s.transport ∧ (takeEdges x s).lamp = s.lamp ∧ (takeEdges x s).power = s.power
    ∧ (takeEdges x s).writer = s.writer ∧ (takeEdges x s).line = s.line ∧ (takeEdges x s).handset = s.handset
    ∧ (takeEdges x s).path = s.path := by
  induction x generalizing s with
  | nil => simp [takeEdges]
  | cons c t ih => simp [takeEdges, ih]

@[simp] theorem decodePass_frame (s : State) :
    (decodePass s).pending = s.pending ∧ (decodePass s).free = s.free ∧ (decodePass s).clock = s.clock
    ∧ (decodePass s).transport = s.transport ∧ (decodePass s).lamp = s.lamp ∧ (decodePass s).power = s.power
    ∧ (decodePass s).writer = s.writer ∧ (decodePass s).line = s.line ∧ (decodePass s).handset = s.handset
    ∧ (decodePass s).path = s.path := by simp [decodePass]

/-! ### Sys2Proof/Machine/PathOps.lean -/

@[simp] theorem setLoaded_frame (r : LiveRecord) (s : State) :
    (setLoaded r s).pending = s.pending ∧ (setLoaded r s).free = s.free ∧ (setLoaded r s).clock = s.clock
    ∧ (setLoaded r s).engine = s.engine ∧ (setLoaded r s).transport = s.transport ∧ (setLoaded r s).lamp = s.lamp
    ∧ (setLoaded r s).power = s.power ∧ (setLoaded r s).deck = s.deck ∧ (setLoaded r s).decoder = s.decoder
    ∧ (setLoaded r s).writer = s.writer ∧ (setLoaded r s).line = s.line ∧ (setLoaded r s).handset = s.handset
    ∧ (setLoaded r s).log = s.log := by
  unfold setLoaded
  split <;> simp

@[simp] theorem setTxn_frame (t : Txn) (s : State) :
    (setTxn t s).pending = s.pending ∧ (setTxn t s).free = s.free ∧ (setTxn t s).clock = s.clock
    ∧ (setTxn t s).engine = s.engine ∧ (setTxn t s).transport = s.transport ∧ (setTxn t s).lamp = s.lamp
    ∧ (setTxn t s).power = s.power ∧ (setTxn t s).deck = s.deck ∧ (setTxn t s).decoder = s.decoder
    ∧ (setTxn t s).writer = s.writer ∧ (setTxn t s).line = s.line ∧ (setTxn t s).handset = s.handset
    ∧ (setTxn t s).log = s.log := by simp [setTxn]

@[simp] theorem sendUp_frame (b : Byte) (s : State) :
    (sendUp b s).pending = s.pending ∧ (sendUp b s).free = s.free ∧ (sendUp b s).clock = s.clock
    ∧ (sendUp b s).engine = s.engine ∧ (sendUp b s).transport = s.transport ∧ (sendUp b s).lamp = s.lamp
    ∧ (sendUp b s).power = s.power ∧ (sendUp b s).deck = s.deck ∧ (sendUp b s).decoder = s.decoder
    ∧ (sendUp b s).writer = s.writer ∧ (sendUp b s).line = s.line ∧ (sendUp b s).handset = s.handset
    ∧ (sendUp b s).log = s.log := by simp [sendUp]

@[simp] theorem capture_frame (c : AddrClass) (b : Byte) (t : Txn) (s : State) :
    (capture c b t s).pending = s.pending ∧ (capture c b t s).free = s.free ∧ (capture c b t s).clock = s.clock
    ∧ (capture c b t s).engine = s.engine ∧ (capture c b t s).transport = s.transport
    ∧ (capture c b t s).lamp = s.lamp ∧ (capture c b t s).power = s.power ∧ (capture c b t s).deck = s.deck
    ∧ (capture c b t s).decoder = s.decoder ∧ (capture c b t s).writer = s.writer ∧ (capture c b t s).line = s.line
    ∧ (capture c b t s).handset = s.handset ∧ (capture c b t s).log = s.log := by
  unfold capture
  split <;> simp

@[simp] theorem readByte_frame (p : Snapshot) (t : Txn) (m : Byte) (s : State) :
    (readByte p t m s).pending = s.pending ∧ (readByte p t m s).free = s.free ∧ (readByte p t m s).clock = s.clock
    ∧ (readByte p t m s).engine = s.engine ∧ (readByte p t m s).transport = s.transport
    ∧ (readByte p t m s).lamp = s.lamp ∧ (readByte p t m s).power = s.power ∧ (readByte p t m s).deck = s.deck
    ∧ (readByte p t m s).decoder = s.decoder ∧ (readByte p t m s).writer = s.writer
    ∧ (readByte p t m s).line = s.line ∧ (readByte p t m s).handset = s.handset ∧ (readByte p t m s).log = s.log := by
  unfold readByte
  dsimp only
  (repeat' split) <;> simp

@[simp] theorem endLeg_frame (s : State) :
    (endLeg s).pending = s.pending ∧ (endLeg s).free = s.free ∧ (endLeg s).clock = s.clock
    ∧ (endLeg s).engine = s.engine ∧ (endLeg s).transport = s.transport ∧ (endLeg s).lamp = s.lamp
    ∧ (endLeg s).power = s.power ∧ (endLeg s).deck = s.deck ∧ (endLeg s).decoder = s.decoder
    ∧ (endLeg s).writer = s.writer ∧ (endLeg s).line = s.line ∧ (endLeg s).handset = s.handset
    ∧ (endLeg s).log = s.log := by simp [endLeg]

@[simp] theorem forward_frame (b : Byte) (s : State) :
    (forward b s).pending = s.pending ∧ (forward b s).free = s.free ∧ (forward b s).clock = s.clock
    ∧ (forward b s).engine = s.engine ∧ (forward b s).transport = s.transport ∧ (forward b s).lamp = s.lamp
    ∧ (forward b s).power = s.power ∧ (forward b s).deck = s.deck ∧ (forward b s).decoder = s.decoder
    ∧ (forward b s).writer = s.writer ∧ (forward b s).line = s.line ∧ (forward b s).handset = s.handset
    ∧ (forward b s).log = s.log := by simp [forward]

@[simp] theorem absorb_frame (c : AddrClass) (b : Byte) (t : Txn) (s : State) :
    (absorb c b t s).pending = s.pending ∧ (absorb c b t s).free = s.free ∧ (absorb c b t s).clock = s.clock
    ∧ (absorb c b t s).engine = s.engine ∧ (absorb c b t s).transport = s.transport ∧ (absorb c b t s).lamp = s.lamp
    ∧ (absorb c b t s).power = s.power ∧ (absorb c b t s).deck = s.deck ∧ (absorb c b t s).decoder = s.decoder
    ∧ (absorb c b t s).writer = s.writer ∧ (absorb c b t s).line = s.line ∧ (absorb c b t s).handset = s.handset
    ∧ (absorb c b t s).log = s.log := by
  unfold absorb
  split <;> simp

@[simp] theorem writeByte_frame (t : Txn) (b : Byte) (s : State) :
    (writeByte t b s).pending = s.pending ∧ (writeByte t b s).free = s.free ∧ (writeByte t b s).clock = s.clock
    ∧ (writeByte t b s).engine = s.engine ∧ (writeByte t b s).transport = s.transport
    ∧ (writeByte t b s).lamp = s.lamp ∧ (writeByte t b s).power = s.power ∧ (writeByte t b s).deck = s.deck
    ∧ (writeByte t b s).decoder = s.decoder ∧ (writeByte t b s).writer = s.writer ∧ (writeByte t b s).line = s.line
    ∧ (writeByte t b s).handset = s.handset ∧ (writeByte t b s).log = s.log := by
  unfold writeByte
  dsimp only
  (repeat' split) <;> simp

@[simp] theorem writeUnlatched_frame (t : Txn) (b : Byte) (s : State) :
    (writeUnlatched t b s).pending = s.pending ∧ (writeUnlatched t b s).free = s.free
    ∧ (writeUnlatched t b s).clock = s.clock ∧ (writeUnlatched t b s).engine = s.engine
    ∧ (writeUnlatched t b s).transport = s.transport ∧ (writeUnlatched t b s).lamp = s.lamp
    ∧ (writeUnlatched t b s).power = s.power ∧ (writeUnlatched t b s).deck = s.deck
    ∧ (writeUnlatched t b s).decoder = s.decoder ∧ (writeUnlatched t b s).writer = s.writer
    ∧ (writeUnlatched t b s).line = s.line ∧ (writeUnlatched t b s).handset = s.handset
    ∧ (writeUnlatched t b s).log = s.log := by
  unfold writeUnlatched
  dsimp only
  (repeat' split) <;> simp

@[simp] theorem openTxn_frame (t : Option Txn) (bs : List Byte) (s : State) :
    (openTxn t bs s).pending = s.pending ∧ (openTxn t bs s).free = s.free ∧ (openTxn t bs s).clock = s.clock
    ∧ (openTxn t bs s).engine = s.engine ∧ (openTxn t bs s).transport = s.transport ∧ (openTxn t bs s).lamp = s.lamp
    ∧ (openTxn t bs s).power = s.power ∧ (openTxn t bs s).deck = s.deck ∧ (openTxn t bs s).decoder = s.decoder
    ∧ (openTxn t bs s).writer = s.writer ∧ (openTxn t bs s).line = s.line ∧ (openTxn t bs s).handset = s.handset
    ∧ (openTxn t bs s).log = s.log := by simp [openTxn]

@[simp] theorem passCommand_frame (k : TxnKind) (b : Byte) (s : State) :
    (passCommand k b s).pending = s.pending ∧ (passCommand k b s).free = s.free ∧ (passCommand k b s).clock = s.clock
    ∧ (passCommand k b s).engine = s.engine ∧ (passCommand k b s).transport = s.transport
    ∧ (passCommand k b s).lamp = s.lamp ∧ (passCommand k b s).power = s.power ∧ (passCommand k b s).deck = s.deck
    ∧ (passCommand k b s).decoder = s.decoder ∧ (passCommand k b s).writer = s.writer
    ∧ (passCommand k b s).line = s.line ∧ (passCommand k b s).handset = s.handset ∧ (passCommand k b s).log = s.log := by
  simp [passCommand]

@[simp] theorem endPassed_frame (s : State) :
    (endPassed s).pending = s.pending ∧ (endPassed s).free = s.free ∧ (endPassed s).clock = s.clock
    ∧ (endPassed s).engine = s.engine ∧ (endPassed s).transport = s.transport ∧ (endPassed s).lamp = s.lamp
    ∧ (endPassed s).power = s.power ∧ (endPassed s).deck = s.deck ∧ (endPassed s).decoder = s.decoder
    ∧ (endPassed s).writer = s.writer ∧ (endPassed s).line = s.line ∧ (endPassed s).handset = s.handset
    ∧ (endPassed s).log = s.log := by
  simp [endPassed]

@[simp] theorem startRead_frame (a : AddrPhase) (s : State) :
    (startRead a s).pending = s.pending ∧ (startRead a s).free = s.free ∧ (startRead a s).clock = s.clock
    ∧ (startRead a s).engine = s.engine ∧ (startRead a s).transport = s.transport ∧ (startRead a s).lamp = s.lamp
    ∧ (startRead a s).power = s.power ∧ (startRead a s).deck = s.deck ∧ (startRead a s).decoder = s.decoder
    ∧ (startRead a s).writer = s.writer ∧ (startRead a s).line = s.line ∧ (startRead a s).handset = s.handset
    ∧ (startRead a s).log = s.log := by
  unfold startRead
  split <;> simp

@[simp] theorem startWrite_frame (a : AddrPhase) (s : State) :
    (startWrite a s).pending = s.pending ∧ (startWrite a s).free = s.free ∧ (startWrite a s).clock = s.clock
    ∧ (startWrite a s).engine = s.engine ∧ (startWrite a s).transport = s.transport ∧ (startWrite a s).lamp = s.lamp
    ∧ (startWrite a s).power = s.power ∧ (startWrite a s).deck = s.deck ∧ (startWrite a s).decoder = s.decoder
    ∧ (startWrite a s).writer = s.writer ∧ (startWrite a s).line = s.line ∧ (startWrite a s).handset = s.handset
    ∧ (startWrite a s).log = s.log := by
  unfold startWrite
  split <;> simp

@[simp] theorem startByte_frame (b : Byte) (s : State) :
    (startByte b s).pending = s.pending ∧ (startByte b s).free = s.free ∧ (startByte b s).clock = s.clock
    ∧ (startByte b s).engine = s.engine ∧ (startByte b s).transport = s.transport ∧ (startByte b s).lamp = s.lamp
    ∧ (startByte b s).power = s.power ∧ (startByte b s).deck = s.deck ∧ (startByte b s).decoder = s.decoder
    ∧ (startByte b s).writer = s.writer ∧ (startByte b s).line = s.line ∧ (startByte b s).handset = s.handset
    ∧ (startByte b s).log = s.log := by
  unfold startByte
  split <;> simp

@[simp] theorem changeMap_frame (m : MapState) (s : State) :
    (changeMap m s).pending = s.pending ∧ (changeMap m s).free = s.free ∧ (changeMap m s).clock = s.clock
    ∧ (changeMap m s).transport = s.transport ∧ (changeMap m s).lamp = s.lamp ∧ (changeMap m s).power = s.power
    ∧ (changeMap m s).deck = s.deck ∧ (changeMap m s).decoder = s.decoder ∧ (changeMap m s).writer = s.writer
    ∧ (changeMap m s).line = s.line ∧ (changeMap m s).handset = s.handset ∧ (changeMap m s).log = s.log := by simp [changeMap]

@[simp] theorem adoptMap_frame (m : MapInfo) (s : State) :
    (adoptMap m s).pending = s.pending ∧ (adoptMap m s).free = s.free ∧ (adoptMap m s).clock = s.clock
    ∧ (adoptMap m s).transport = s.transport ∧ (adoptMap m s).lamp = s.lamp ∧ (adoptMap m s).power = s.power
    ∧ (adoptMap m s).deck = s.deck ∧ (adoptMap m s).decoder = s.decoder ∧ (adoptMap m s).writer = s.writer
    ∧ (adoptMap m s).line = s.line ∧ (adoptMap m s).handset = s.handset := by simp [adoptMap]

@[simp] theorem enterMapFault_frame (code : Nat) (s : State) :
    (enterMapFault code s).pending = s.pending ∧ (enterMapFault code s).free = s.free
    ∧ (enterMapFault code s).clock = s.clock ∧ (enterMapFault code s).transport = s.transport
    ∧ (enterMapFault code s).lamp = s.lamp ∧ (enterMapFault code s).power = s.power
    ∧ (enterMapFault code s).deck = s.deck ∧ (enterMapFault code s).decoder = s.decoder
    ∧ (enterMapFault code s).writer = s.writer ∧ (enterMapFault code s).line = s.line
    ∧ (enterMapFault code s).handset = s.handset := by simp [enterMapFault]

@[simp] theorem decideMap_frame (s : State) :
    (decideMap s).pending = s.pending ∧ (decideMap s).free = s.free ∧ (decideMap s).clock = s.clock
    ∧ (decideMap s).transport = s.transport ∧ (decideMap s).lamp = s.lamp ∧ (decideMap s).power = s.power
    ∧ (decideMap s).deck = s.deck ∧ (decideMap s).decoder = s.decoder ∧ (decideMap s).writer = s.writer
    ∧ (decideMap s).line = s.line ∧ (decideMap s).handset = s.handset := by
  unfold decideMap
  dsimp only
  (repeat' split) <;> simp

@[simp] theorem validateHeader_frame (t : Txn) (s : State) :
    (validateHeader t s).pending = s.pending ∧ (validateHeader t s).free = s.free
    ∧ (validateHeader t s).clock = s.clock ∧ (validateHeader t s).transport = s.transport
    ∧ (validateHeader t s).lamp = s.lamp ∧ (validateHeader t s).power = s.power ∧ (validateHeader t s).deck = s.deck
    ∧ (validateHeader t s).decoder = s.decoder ∧ (validateHeader t s).writer = s.writer
    ∧ (validateHeader t s).line = s.line ∧ (validateHeader t s).handset = s.handset := by
  unfold validateHeader
  split <;> simp

@[simp] theorem settingsActions_frame (old : Bytes) (s : State) :
    (settingsActions old s).pending = s.pending ∧ (settingsActions old s).free = s.free
    ∧ (settingsActions old s).clock = s.clock ∧ (settingsActions old s).power = s.power
    ∧ (settingsActions old s).path = s.path := by
  unfold settingsActions
  dsimp only
  (repeat' split) <;> simp

@[simp] theorem updateSettings_frame (t : Txn) (s : State) :
    (updateSettings t s).pending = s.pending ∧ (updateSettings t s).free = s.free
    ∧ (updateSettings t s).clock = s.clock ∧ (updateSettings t s).power = s.power := by simp [updateSettings]

@[simp] theorem setPointer_frame (p : Nat) (s : State) :
    (setPointer p s).pending = s.pending ∧ (setPointer p s).free = s.free ∧ (setPointer p s).clock = s.clock
    ∧ (setPointer p s).transport = s.transport ∧ (setPointer p s).lamp = s.lamp ∧ (setPointer p s).power = s.power
    ∧ (setPointer p s).deck = s.deck ∧ (setPointer p s).decoder = s.decoder ∧ (setPointer p s).writer = s.writer
    ∧ (setPointer p s).line = s.line ∧ (setPointer p s).handset = s.handset ∧ (setPointer p s).log = s.log
    ∧ (setPointer p s).path = s.path := by simp [setPointer]

@[simp] theorem setUsage_frame (m : Assoc Byte) (s : State) :
    (setUsage m s).pending = s.pending ∧ (setUsage m s).free = s.free ∧ (setUsage m s).clock = s.clock
    ∧ (setUsage m s).engine = s.engine ∧ (setUsage m s).transport = s.transport ∧ (setUsage m s).power = s.power
    ∧ (setUsage m s).deck = s.deck ∧ (setUsage m s).decoder = s.decoder ∧ (setUsage m s).writer = s.writer
    ∧ (setUsage m s).line = s.line ∧ (setUsage m s).handset = s.handset ∧ (setUsage m s).log = s.log
    ∧ (setUsage m s).path = s.path := by simp [setUsage]

@[simp] theorem writtenRunState_frame (v : Nat) (s : State) :
    (writtenRunState v s).pending = s.pending ∧ (writtenRunState v s).free = s.free
    ∧ (writtenRunState v s).clock = s.clock ∧ (writtenRunState v s).transport = s.transport
    ∧ (writtenRunState v s).power = s.power ∧ (writtenRunState v s).handset = s.handset
    ∧ (writtenRunState v s).path = s.path := by
  unfold writtenRunState
  (repeat' split) <;> simp

@[simp] theorem loadRecord_frame (m : Assoc Byte) (r : LiveRecord) (s : State) :
    (loadRecord m r s).pending = s.pending ∧ (loadRecord m r s).free = s.free ∧ (loadRecord m r s).clock = s.clock
    ∧ (loadRecord m r s).transport = s.transport ∧ (loadRecord m r s).power = s.power
    ∧ (loadRecord m r s).line = s.line ∧ (loadRecord m r s).handset = s.handset ∧ (loadRecord m r s).log = s.log
    ∧ (loadRecord m r s).path = s.path := by
  unfold loadRecord
  split <;> simp

@[simp] theorem applyRecord_frame (m : Assoc Byte) (r : LiveRecord) (s : State) :
    (applyRecord m r s).pending = s.pending ∧ (applyRecord m r s).free = s.free
    ∧ (applyRecord m r s).clock = s.clock ∧ (applyRecord m r s).transport = s.transport
    ∧ (applyRecord m r s).power = s.power ∧ (applyRecord m r s).handset = s.handset
    ∧ (applyRecord m r s).path = s.path := by
  unfold applyRecord
  (repeat' split) <;> simp

@[simp] theorem finishLoad_frame (m : Assoc Byte) (r : LiveRecord) (s : State) :
    (finishLoad m r s).pending = s.pending ∧ (finishLoad m r s).free = s.free ∧ (finishLoad m r s).clock = s.clock
    ∧ (finishLoad m r s).transport = s.transport ∧ (finishLoad m r s).power = s.power
    ∧ (finishLoad m r s).line = s.line ∧ (finishLoad m r s).handset = s.handset ∧ (finishLoad m r s).log = s.log := by
  unfold finishLoad
  split <;> simp

@[simp] theorem finishApply_frame (m : Assoc Byte) (r : LiveRecord) (s : State) :
    (finishApply m r s).pending = s.pending ∧ (finishApply m r s).free = s.free
    ∧ (finishApply m r s).clock = s.clock ∧ (finishApply m r s).transport = s.transport
    ∧ (finishApply m r s).power = s.power ∧ (finishApply m r s).handset = s.handset := by
  unfold finishApply
  (repeat' split) <;> simp

@[simp] theorem finishAcknowledge_frame (t : Txn) (s : State) :
    (finishAcknowledge t s).pending = s.pending ∧ (finishAcknowledge t s).free = s.free
    ∧ (finishAcknowledge t s).clock = s.clock ∧ (finishAcknowledge t s).engine = s.engine
    ∧ (finishAcknowledge t s).transport = s.transport ∧ (finishAcknowledge t s).lamp = s.lamp
    ∧ (finishAcknowledge t s).power = s.power ∧ (finishAcknowledge t s).deck = s.deck
    ∧ (finishAcknowledge t s).decoder = s.decoder ∧ (finishAcknowledge t s).writer = s.writer
    ∧ (finishAcknowledge t s).line = s.line ∧ (finishAcknowledge t s).handset = s.handset
    ∧ (finishAcknowledge t s).path = s.path := by
  unfold finishAcknowledge
  split <;> simp

@[simp] theorem controlCue_frame (k : CueKind) (s : State) :
    (controlCue k s).1.pending = s.pending ∧ (controlCue k s).1.free = s.free ∧ (controlCue k s).1.clock = s.clock
    ∧ (controlCue k s).1.transport = s.transport ∧ (controlCue k s).1.lamp = s.lamp
    ∧ (controlCue k s).1.power = s.power ∧ (controlCue k s).1.deck = s.deck ∧ (controlCue k s).1.decoder = s.decoder
    ∧ (controlCue k s).1.writer = s.writer ∧ (controlCue k s).1.line = s.line
    ∧ (controlCue k s).1.handset = s.handset ∧ (controlCue k s).1.path = s.path := by simp [controlCue]

@[simp] theorem controlDeck_frame (a : Nat) (target : Int) (s : State) :
    (controlDeck a target s).1.pending = s.pending ∧ (controlDeck a target s).1.free = s.free
    ∧ (controlDeck a target s).1.clock = s.clock ∧ (controlDeck a target s).1.engine = s.engine
    ∧ (controlDeck a target s).1.transport = s.transport ∧ (controlDeck a target s).1.lamp = s.lamp
    ∧ (controlDeck a target s).1.power = s.power ∧ (controlDeck a target s).1.line = s.line
    ∧ (controlDeck a target s).1.handset = s.handset ∧ (controlDeck a target s).1.log = s.log
    ∧ (controlDeck a target s).1.path = s.path := by
  unfold controlDeck
  (repeat' split) <;> simp

@[simp] theorem controlWriteCue_frame (a : Nat) (b c : Word) (s : State) :
    (controlWriteCue a b c s).1.pending = s.pending ∧ (controlWriteCue a b c s).1.free = s.free
    ∧ (controlWriteCue a b c s).1.clock = s.clock ∧ (controlWriteCue a b c s).1.engine = s.engine
    ∧ (controlWriteCue a b c s).1.transport = s.transport ∧ (controlWriteCue a b c s).1.lamp = s.lamp
    ∧ (controlWriteCue a b c s).1.power = s.power ∧ (controlWriteCue a b c s).1.deck = s.deck
    ∧ (controlWriteCue a b c s).1.decoder = s.decoder ∧ (controlWriteCue a b c s).1.line = s.line
    ∧ (controlWriteCue a b c s).1.handset = s.handset ∧ (controlWriteCue a b c s).1.path = s.path := by
  unfold controlWriteCue
  (repeat' split) <;> simp

@[simp] theorem controlRequest_frame (code a : Nat) (b c : Word) (s : State) :
    (controlRequest code a b c s).1.pending = s.pending ∧ (controlRequest code a b c s).1.free = s.free
    ∧ (controlRequest code a b c s).1.clock = s.clock ∧ (controlRequest code a b c s).1.path = s.path := by
  unfold controlRequest
  (repeat' split) <;> simp [byState]

@[simp] theorem finishRequest_frame (t : Txn) (s : State) :
    (finishRequest t s).pending = s.pending ∧ (finishRequest t s).free = s.free
    ∧ (finishRequest t s).clock = s.clock := by
  unfold finishRequest
  split <;> simp

@[simp] theorem finishConsume_frame (p : Snapshot) (t : Txn) (s : State) :
    (finishConsume p t s).pending = s.pending ∧ (finishConsume p t s).free = s.free
    ∧ (finishConsume p t s).clock = s.clock ∧ (finishConsume p t s).engine = s.engine
    ∧ (finishConsume p t s).transport = s.transport ∧ (finishConsume p t s).lamp = s.lamp
    ∧ (finishConsume p t s).power = s.power ∧ (finishConsume p t s).deck = s.deck
    ∧ (finishConsume p t s).decoder = s.decoder ∧ (finishConsume p t s).writer = s.writer
    ∧ (finishConsume p t s).line = s.line ∧ (finishConsume p t s).handset = s.handset
    ∧ (finishConsume p t s).path = s.path := by simp [finishConsume]

@[simp] theorem finishRead_frame (p : Snapshot) (t : Txn) (s : State) :
    (finishRead p t s).pending = s.pending ∧ (finishRead p t s).free = s.free ∧ (finishRead p t s).clock = s.clock
    ∧ (finishRead p t s).power = s.power := by simp [finishRead]

@[simp] theorem finishWrite_frame (t : Txn) (s : State) :
    (finishWrite t s).pending = s.pending ∧ (finishWrite t s).free = s.free ∧ (finishWrite t s).clock = s.clock := by simp [finishWrite]

@[simp] theorem closeTxn_frame (s : State) :
    (closeTxn s).pending = s.pending ∧ (closeTxn s).free = s.free ∧ (closeTxn s).clock = s.clock
    ∧ (closeTxn s).engine = s.engine ∧ (closeTxn s).transport = s.transport ∧ (closeTxn s).lamp = s.lamp
    ∧ (closeTxn s).power = s.power ∧ (closeTxn s).deck = s.deck ∧ (closeTxn s).decoder = s.decoder
    ∧ (closeTxn s).writer = s.writer ∧ (closeTxn s).line = s.line ∧ (closeTxn s).handset = s.handset
    ∧ (closeTxn s).log = s.log := by simp [closeTxn]

/-! ### Sys2Proof/Machine/Engine.lean -/

@[simp] theorem cutFade_frame (s : State) :
    (cutFade s).pending = s.pending ∧ (cutFade s).free = s.free ∧ (cutFade s).clock = s.clock
    ∧ (cutFade s).transport = s.transport ∧ (cutFade s).lamp = s.lamp ∧ (cutFade s).power = s.power
    ∧ (cutFade s).deck = s.deck ∧ (cutFade s).decoder = s.decoder ∧ (cutFade s).writer = s.writer
    ∧ (cutFade s).line = s.line ∧ (cutFade s).handset = s.handset ∧ (cutFade s).path = s.path := by
  unfold cutFade
  split <;> simp

@[simp] theorem checkDrift_frame (src : CueSource) (p : Plan) (s : State) :
    (checkDrift src p s).pending = s.pending ∧ (checkDrift src p s).free = s.free
    ∧ (checkDrift src p s).clock = s.clock ∧ (checkDrift src p s).engine = s.engine
    ∧ (checkDrift src p s).transport = s.transport ∧ (checkDrift src p s).lamp = s.lamp
    ∧ (checkDrift src p s).power = s.power ∧ (checkDrift src p s).deck = s.deck
    ∧ (checkDrift src p s).decoder = s.decoder ∧ (checkDrift src p s).writer = s.writer
    ∧ (checkDrift src p s).line = s.line ∧ (checkDrift src p s).handset = s.handset
    ∧ (checkDrift src p s).path = s.path := by
  unfold checkDrift
  (repeat' split) <;> simp

@[simp] theorem endShow_frame (t : Nat) (s : State) :
    (endShow t s).pending = s.pending ∧ (endShow t s).free = s.free ∧ (endShow t s).clock = s.clock
    ∧ (endShow t s).transport = s.transport ∧ (endShow t s).power = s.power ∧ (endShow t s).line = s.line
    ∧ (endShow t s).handset = s.handset ∧ (endShow t s).path = s.path := by simp [endShow]

@[simp] theorem holdRunning_frame (s : State) :
    (holdRunning s).pending = s.pending ∧ (holdRunning s).free = s.free ∧ (holdRunning s).clock = s.clock
    ∧ (holdRunning s).transport = s.transport ∧ (holdRunning s).lamp = s.lamp ∧ (holdRunning s).power = s.power
    ∧ (holdRunning s).line = s.line ∧ (holdRunning s).handset = s.handset ∧ (holdRunning s).log = s.log
    ∧ (holdRunning s).path = s.path := by
  unfold holdRunning
  split <;> simp

@[simp] theorem entryAudio_frame (p : Plan) (s : State) :
    (entryAudio p s).pending = s.pending ∧ (entryAudio p s).free = s.free ∧ (entryAudio p s).clock = s.clock
    ∧ (entryAudio p s).engine = s.engine ∧ (entryAudio p s).transport = s.transport ∧ (entryAudio p s).lamp = s.lamp
    ∧ (entryAudio p s).power = s.power ∧ (entryAudio p s).decoder = s.decoder ∧ (entryAudio p s).writer = s.writer
    ∧ (entryAudio p s).line = s.line ∧ (entryAudio p s).handset = s.handset ∧ (entryAudio p s).log = s.log
    ∧ (entryAudio p s).path = s.path := by
  unfold entryAudio
  (repeat' split) <;> simp

@[simp] theorem startAction_frame (e : Executing) (s : State) :
    (startAction e s).pending = s.pending ∧ (startAction e s).free = s.free ∧ (startAction e s).clock = s.clock
    ∧ (startAction e s).line = s.line ∧ (startAction e s).handset = s.handset ∧ (startAction e s).path = s.path := by
  unfold startAction
  split <;> simp

@[simp] theorem startCue_frame (e : Executing) (s : State) :
    (startCue e s).pending = s.pending ∧ (startCue e s).free = s.free ∧ (startCue e s).clock = s.clock
    ∧ (startCue e s).line = s.line ∧ (startCue e s).handset = s.handset ∧ (startCue e s).path = s.path := by
  unfold startCue
  dsimp only
  split <;> simp

@[simp] theorem checkLate_frame (c : Cue) (cueNo : Word) (start : Clock32) (s : State) :
    (checkLate c cueNo start s).pending = s.pending ∧ (checkLate c cueNo start s).free = s.free
    ∧ (checkLate c cueNo start s).clock = s.clock ∧ (checkLate c cueNo start s).engine = s.engine
    ∧ (checkLate c cueNo start s).transport = s.transport ∧ (checkLate c cueNo start s).lamp = s.lamp
    ∧ (checkLate c cueNo start s).power = s.power ∧ (checkLate c cueNo start s).deck = s.deck
    ∧ (checkLate c cueNo start s).decoder = s.decoder ∧ (checkLate c cueNo start s).writer = s.writer
    ∧ (checkLate c cueNo start s).line = s.line ∧ (checkLate c cueNo start s).handset = s.handset
    ∧ (checkLate c cueNo start s).path = s.path := by
  unfold checkLate
  dsimp only
  split <;> simp

@[simp] theorem learnPlacement_frame (c : Cue) (p : Plan) (s : State) :
    (learnPlacement c p s).pending = s.pending ∧ (learnPlacement c p s).free = s.free
    ∧ (learnPlacement c p s).clock = s.clock ∧ (learnPlacement c p s).engine = s.engine
    ∧ (learnPlacement c p s).transport = s.transport ∧ (learnPlacement c p s).lamp = s.lamp
    ∧ (learnPlacement c p s).power = s.power ∧ (learnPlacement c p s).deck = s.deck
    ∧ (learnPlacement c p s).decoder = s.decoder ∧ (learnPlacement c p s).line = s.line
    ∧ (learnPlacement c p s).handset = s.handset ∧ (learnPlacement c p s).path = s.path := by
  unfold learnPlacement
  dsimp only
  (repeat' split) <;> simp

@[simp] theorem beginExecution_frame (c : Cue) (p : Plan) (msg : Option LineMsg) (s : State) :
    (beginExecution c p msg s).pending = s.pending ∧ (beginExecution c p msg s).free = s.free
    ∧ (beginExecution c p msg s).clock = s.clock ∧ (beginExecution c p msg s).handset = s.handset
    ∧ (beginExecution c p msg s).path = s.path := by
  unfold beginExecution
  dsimp only
  (repeat' split) <;> simp

@[simp] theorem takeEntry_frame (c : Cue) (j : Nat) (s : State) :
    (takeEntry c j s).pending = s.pending ∧ (takeEntry c j s).free = s.free ∧ (takeEntry c j s).clock = s.clock
    ∧ (takeEntry c j s).handset = s.handset ∧ (takeEntry c j s).path = s.path := by
  unfold takeEntry
  dsimp only
  split <;> simp

@[simp] theorem takeNumbered_frame (c : Cue) (n : Word) (s : State) :
    (takeNumbered c n s).pending = s.pending ∧ (takeNumbered c n s).free = s.free
    ∧ (takeNumbered c n s).clock = s.clock ∧ (takeNumbered c n s).handset = s.handset
    ∧ (takeNumbered c n s).path = s.path := by
  unfold takeNumbered
  dsimp only
  (repeat' split) <;> simp

@[simp] theorem takeAdvance_frame (c : Cue) (s : State) :
    (takeAdvance c s).pending = s.pending ∧ (takeAdvance c s).free = s.free ∧ (takeAdvance c s).clock = s.clock
    ∧ (takeAdvance c s).handset = s.handset ∧ (takeAdvance c s).path = s.path := by
  unfold takeAdvance
  (repeat' split) <;> simp

@[simp] theorem takeGoto_frame (c : Cue) (slot : Nat) (s : State) :
    (takeGoto c slot s).pending = s.pending ∧ (takeGoto c slot s).free = s.free
    ∧ (takeGoto c slot s).clock = s.clock ∧ (takeGoto c slot s).handset = s.handset
    ∧ (takeGoto c slot s).path = s.path := by
  unfold takeGoto
  split <;> simp

@[simp] theorem resolveCue_frame (c : Cue) (s : State) :
    (resolveCue c s).pending = s.pending ∧ (resolveCue c s).free = s.free ∧ (resolveCue c s).clock = s.clock
    ∧ (resolveCue c s).handset = s.handset ∧ (resolveCue c s).path = s.path := by
  unfold resolveCue
  split <;> simp

/-! ### Sys2Proof/Machine/Transport.lean -/

@[simp] theorem setMove_frame (v : Move) (s : State) :
    (setMove v s).pending = s.pending ∧ (setMove v s).free = s.free ∧ (setMove v s).clock = s.clock
    ∧ (setMove v s).engine = s.engine ∧ (setMove v s).lamp = s.lamp ∧ (setMove v s).power = s.power
    ∧ (setMove v s).deck = s.deck ∧ (setMove v s).decoder = s.decoder ∧ (setMove v s).writer = s.writer
    ∧ (setMove v s).line = s.line ∧ (setMove v s).handset = s.handset ∧ (setMove v s).log = s.log
    ∧ (setMove v s).path = s.path := by simp [setMove]

@[simp] theorem awaitStep_frame (v : Move) (s : State) :
    (awaitStep v s).pending = s.pending ∧ (awaitStep v s).free = s.free ∧ (awaitStep v s).clock = s.clock
    ∧ (awaitStep v s).engine = s.engine ∧ (awaitStep v s).lamp = s.lamp ∧ (awaitStep v s).power = s.power
    ∧ (awaitStep v s).deck = s.deck ∧ (awaitStep v s).decoder = s.decoder ∧ (awaitStep v s).writer = s.writer
    ∧ (awaitStep v s).line = s.line ∧ (awaitStep v s).handset = s.handset ∧ (awaitStep v s).log = s.log
    ∧ (awaitStep v s).path = s.path := by simp [awaitStep]

@[simp] theorem searchStep_frame (v : Move) (s : State) :
    (searchStep v s).pending = s.pending ∧ (searchStep v s).free = s.free ∧ (searchStep v s).clock = s.clock
    ∧ (searchStep v s).engine = s.engine ∧ (searchStep v s).lamp = s.lamp ∧ (searchStep v s).power = s.power
    ∧ (searchStep v s).deck = s.deck ∧ (searchStep v s).decoder = s.decoder ∧ (searchStep v s).writer = s.writer
    ∧ (searchStep v s).line = s.line ∧ (searchStep v s).handset = s.handset ∧ (searchStep v s).log = s.log
    ∧ (searchStep v s).path = s.path := by
  unfold searchStep
  dsimp only
  split <;> simp

@[simp] theorem moveStep_frame (v : Move) (s : State) :
    (moveStep v s).pending = s.pending ∧ (moveStep v s).free = s.free ∧ (moveStep v s).clock = s.clock
    ∧ (moveStep v s).power = s.power ∧ (moveStep v s).deck = s.deck ∧ (moveStep v s).decoder = s.decoder
    ∧ (moveStep v s).writer = s.writer ∧ (moveStep v s).line = s.line ∧ (moveStep v s).handset = s.handset
    ∧ (moveStep v s).path = s.path := by
  unfold moveStep
  dsimp only
  split <;> simp

@[simp] theorem dueStep_frame (v : Move) (s : State) :
    (dueStep v s).pending = s.pending ∧ (dueStep v s).free = s.free ∧ (dueStep v s).clock = s.clock
    ∧ (dueStep v s).power = s.power ∧ (dueStep v s).deck = s.deck ∧ (dueStep v s).decoder = s.decoder
    ∧ (dueStep v s).writer = s.writer ∧ (dueStep v s).line = s.line ∧ (dueStep v s).handset = s.handset
    ∧ (dueStep v s).path = s.path := by
  unfold dueStep
  (repeat' split) <;> simp

@[simp] theorem stall_frame (v : Move) (s : State) :
    (stall v s).pending = s.pending ∧ (stall v s).free = s.free ∧ (stall v s).clock = s.clock
    ∧ (stall v s).line = s.line ∧ (stall v s).handset = s.handset ∧ (stall v s).path = s.path := by
  unfold stall
  dsimp only
  split <;> simp

@[simp] theorem replaceMove_frame (old : MoveStatus) (v : Move) (s : State) :
    (replaceMove old v s).pending = s.pending ∧ (replaceMove old v s).free = s.free
    ∧ (replaceMove old v s).clock = s.clock ∧ (replaceMove old v s).power = s.power
    ∧ (replaceMove old v s).deck = s.deck ∧ (replaceMove old v s).decoder = s.decoder
    ∧ (replaceMove old v s).writer = s.writer ∧ (replaceMove old v s).line = s.line
    ∧ (replaceMove old v s).handset = s.handset ∧ (replaceMove old v s).path = s.path := by
  unfold replaceMove
  (repeat' split) <;> simp

@[simp] theorem postTraySlip_frame (e : Int) (s : State) :
    (postTraySlip e s).pending = s.pending ∧ (postTraySlip e s).free = s.free ∧ (postTraySlip e s).clock = s.clock
    ∧ (postTraySlip e s).engine = s.engine ∧ (postTraySlip e s).transport = s.transport
    ∧ (postTraySlip e s).lamp = s.lamp ∧ (postTraySlip e s).power = s.power ∧ (postTraySlip e s).deck = s.deck
    ∧ (postTraySlip e s).decoder = s.decoder ∧ (postTraySlip e s).writer = s.writer
    ∧ (postTraySlip e s).line = s.line ∧ (postTraySlip e s).handset = s.handset ∧ (postTraySlip e s).path = s.path := by simp [postTraySlip]

@[simp] theorem resync_frame (v : Move) (s : State) :
    (resync v s).pending = s.pending ∧ (resync v s).free = s.free ∧ (resync v s).clock = s.clock
    ∧ (resync v s).power = s.power ∧ (resync v s).deck = s.deck ∧ (resync v s).decoder = s.decoder
    ∧ (resync v s).writer = s.writer ∧ (resync v s).line = s.line ∧ (resync v s).handset = s.handset
    ∧ (resync v s).path = s.path := by
  unfold resync
  dsimp only
  (repeat' split) <;> simp

@[simp] theorem endSearch_frame (v : Move) (s : State) :
    (endSearch v s).pending = s.pending ∧ (endSearch v s).free = s.free ∧ (endSearch v s).clock = s.clock
    ∧ (endSearch v s).power = s.power ∧ (endSearch v s).deck = s.deck ∧ (endSearch v s).decoder = s.decoder
    ∧ (endSearch v s).writer = s.writer ∧ (endSearch v s).line = s.line ∧ (endSearch v s).handset = s.handset
    ∧ (endSearch v s).path = s.path := by simp [endSearch]

@[simp] theorem wakeMove_frame (s : State) :
    (wakeMove s).pending = s.pending ∧ (wakeMove s).free = s.free ∧ (wakeMove s).clock = s.clock
    ∧ (wakeMove s).engine = s.engine ∧ (wakeMove s).lamp = s.lamp ∧ (wakeMove s).power = s.power
    ∧ (wakeMove s).deck = s.deck ∧ (wakeMove s).decoder = s.decoder ∧ (wakeMove s).writer = s.writer
    ∧ (wakeMove s).line = s.line ∧ (wakeMove s).handset = s.handset ∧ (wakeMove s).log = s.log
    ∧ (wakeMove s).path = s.path := by
  unfold wakeMove
  (repeat' split) <;> simp

@[simp] theorem reachPark_frame (s : State) :
    (reachPark s).pending = s.pending ∧ (reachPark s).free = s.free ∧ (reachPark s).clock = s.clock
    ∧ (reachPark s).power = s.power ∧ (reachPark s).deck = s.deck ∧ (reachPark s).decoder = s.decoder
    ∧ (reachPark s).writer = s.writer ∧ (reachPark s).line = s.line ∧ (reachPark s).handset = s.handset
    ∧ (reachPark s).path = s.path := by
  unfold reachPark
  split <;> simp

@[simp] theorem camAdvanced_frame (tab : CamTable) (a b : Nat) (s : State) :
    (camAdvanced tab a b s).pending = s.pending ∧ (camAdvanced tab a b s).free = s.free
    ∧ (camAdvanced tab a b s).clock = s.clock ∧ (camAdvanced tab a b s).line = s.line
    ∧ (camAdvanced tab a b s).handset = s.handset ∧ (camAdvanced tab a b s).path = s.path := by
  unfold camAdvanced
  dsimp only
  (repeat' split) <;> simp

@[simp] theorem endCamHome_frame (s : State) :
    (endCamHome s).pending = s.pending ∧ (endCamHome s).free = s.free ∧ (endCamHome s).clock = s.clock
    ∧ (endCamHome s).line = s.line ∧ (endCamHome s).handset = s.handset ∧ (endCamHome s).path = s.path := by simp [endCamHome]

@[simp] theorem enterRetry_frame (s : State) :
    (enterRetry s).pending = s.pending ∧ (enterRetry s).free = s.free ∧ (enterRetry s).clock = s.clock
    ∧ (enterRetry s).engine = s.engine ∧ (enterRetry s).lamp = s.lamp ∧ (enterRetry s).power = s.power
    ∧ (enterRetry s).deck = s.deck ∧ (enterRetry s).decoder = s.decoder ∧ (enterRetry s).writer = s.writer
    ∧ (enterRetry s).line = s.line ∧ (enterRetry s).handset = s.handset ∧ (enterRetry s).log = s.log
    ∧ (enterRetry s).path = s.path := by simp [enterRetry]

@[simp] theorem emptyGate_frame (s : State) :
    (emptyGate s).pending = s.pending ∧ (emptyGate s).free = s.free ∧ (emptyGate s).clock = s.clock
    ∧ (emptyGate s).deck = s.deck ∧ (emptyGate s).decoder = s.decoder ∧ (emptyGate s).writer = s.writer
    ∧ (emptyGate s).line = s.line ∧ (emptyGate s).path = s.path := by simp [emptyGate]

@[simp] theorem enterNoTray_frame (s : State) :
    (enterNoTray s).pending = s.pending ∧ (enterNoTray s).free = s.free ∧ (enterNoTray s).clock = s.clock
    ∧ (enterNoTray s).engine = s.engine ∧ (enterNoTray s).lamp = s.lamp ∧ (enterNoTray s).power = s.power
    ∧ (enterNoTray s).deck = s.deck ∧ (enterNoTray s).decoder = s.decoder ∧ (enterNoTray s).writer = s.writer
    ∧ (enterNoTray s).line = s.line ∧ (enterNoTray s).handset = s.handset ∧ (enterNoTray s).log = s.log
    ∧ (enterNoTray s).path = s.path := by simp [enterNoTray]

@[simp] theorem postTrayPulled_frame (s : State) :
    (postTrayPulled s).pending = s.pending ∧ (postTrayPulled s).free = s.free ∧ (postTrayPulled s).clock = s.clock
    ∧ (postTrayPulled s).engine = s.engine ∧ (postTrayPulled s).transport = s.transport
    ∧ (postTrayPulled s).lamp = s.lamp ∧ (postTrayPulled s).power = s.power ∧ (postTrayPulled s).deck = s.deck
    ∧ (postTrayPulled s).decoder = s.decoder ∧ (postTrayPulled s).writer = s.writer
    ∧ (postTrayPulled s).line = s.line ∧ (postTrayPulled s).handset = s.handset ∧ (postTrayPulled s).path = s.path := by simp [postTrayPulled]

/-! ### Sys2Proof/Machine/LampUnit.lean -/

@[simp] theorem restartLampPeriod_frame (s : State) :
    (restartLampPeriod s).pending = s.pending ∧ (restartLampPeriod s).free = s.free
    ∧ (restartLampPeriod s).engine = s.engine ∧ (restartLampPeriod s).transport = s.transport
    ∧ (restartLampPeriod s).lamp = s.lamp ∧ (restartLampPeriod s).power = s.power
    ∧ (restartLampPeriod s).deck = s.deck ∧ (restartLampPeriod s).decoder = s.decoder
    ∧ (restartLampPeriod s).writer = s.writer ∧ (restartLampPeriod s).line = s.line
    ∧ (restartLampPeriod s).handset = s.handset ∧ (restartLampPeriod s).log = s.log
    ∧ (restartLampPeriod s).path = s.path := by simp [restartLampPeriod]

@[simp] theorem setSwitches_frame (primary spare : Bool) (s : State) :
    (setSwitches primary spare s).pending = s.pending ∧ (setSwitches primary spare s).free = s.free
    ∧ (setSwitches primary spare s).clock = s.clock ∧ (setSwitches primary spare s).engine = s.engine
    ∧ (setSwitches primary spare s).transport = s.transport ∧ (setSwitches primary spare s).power = s.power
    ∧ (setSwitches primary spare s).deck = s.deck ∧ (setSwitches primary spare s).decoder = s.decoder
    ∧ (setSwitches primary spare s).writer = s.writer ∧ (setSwitches primary spare s).line = s.line
    ∧ (setSwitches primary spare s).handset = s.handset ∧ (setSwitches primary spare s).log = s.log
    ∧ (setSwitches primary spare s).path = s.path := by simp [setSwitches]

/-! ### Sys2Proof/Machine/PowerUnit.lean -/

@[simp] theorem decideBand_frame (gate house : Nat) (s : State) :
    (decideBand gate house s).pending = s.pending ∧ (decideBand gate house s).free = s.free
    ∧ (decideBand gate house s).clock = s.clock ∧ (decideBand gate house s).transport = s.transport
    ∧ (decideBand gate house s).lamp = s.lamp ∧ (decideBand gate house s).line = s.line
    ∧ (decideBand gate house s).handset = s.handset ∧ (decideBand gate house s).path = s.path := by
  unfold decideBand
  dsimp only
  split <;> simp

@[simp] theorem smoothPower_frame (s : State) :
    (smoothPower s).pending = s.pending ∧ (smoothPower s).free = s.free ∧ (smoothPower s).clock = s.clock
    ∧ (smoothPower s).engine = s.engine ∧ (smoothPower s).transport = s.transport ∧ (smoothPower s).lamp = s.lamp
    ∧ (smoothPower s).deck = s.deck ∧ (smoothPower s).decoder = s.decoder ∧ (smoothPower s).writer = s.writer
    ∧ (smoothPower s).line = s.line ∧ (smoothPower s).handset = s.handset ∧ (smoothPower s).log = s.log
    ∧ (smoothPower s).path = s.path := by simp [smoothPower]

@[simp] theorem testCooldown_frame (s : State) :
    (testCooldown s).pending = s.pending ∧ (testCooldown s).free = s.free ∧ (testCooldown s).clock = s.clock
    ∧ (testCooldown s).engine = s.engine ∧ (testCooldown s).lamp = s.lamp ∧ (testCooldown s).deck = s.deck
    ∧ (testCooldown s).decoder = s.decoder ∧ (testCooldown s).writer = s.writer ∧ (testCooldown s).line = s.line
    ∧ (testCooldown s).handset = s.handset ∧ (testCooldown s).path = s.path := by
  unfold testCooldown
  dsimp only
  (repeat' split) <;> simp

@[simp] theorem applyFan_frame (s : State) :
    (applyFan s).pending = s.pending ∧ (applyFan s).free = s.free ∧ (applyFan s).clock = s.clock
    ∧ (applyFan s).engine = s.engine ∧ (applyFan s).transport = s.transport ∧ (applyFan s).lamp = s.lamp
    ∧ (applyFan s).deck = s.deck ∧ (applyFan s).decoder = s.decoder ∧ (applyFan s).writer = s.writer
    ∧ (applyFan s).line = s.line ∧ (applyFan s).handset = s.handset ∧ (applyFan s).log = s.log
    ∧ (applyFan s).path = s.path := by simp [applyFan]

@[simp] theorem enterWatching_frame (s : State) :
    (enterWatching s).pending = s.pending ∧ (enterWatching s).free = s.free ∧ (enterWatching s).clock = s.clock
    ∧ (enterWatching s).engine = s.engine ∧ (enterWatching s).transport = s.transport
    ∧ (enterWatching s).lamp = s.lamp ∧ (enterWatching s).deck = s.deck ∧ (enterWatching s).decoder = s.decoder
    ∧ (enterWatching s).writer = s.writer ∧ (enterWatching s).line = s.line ∧ (enterWatching s).handset = s.handset
    ∧ (enterWatching s).log = s.log ∧ (enterWatching s).path = s.path := by simp [enterWatching]

/-! ### Sys2Proof/Machine/DeckUnit.lean -/

@[simp] theorem endBraking_frame (s : State) :
    (endBraking s).pending = s.pending ∧ (endBraking s).free = s.free ∧ (endBraking s).clock = s.clock
    ∧ (endBraking s).engine = s.engine ∧ (endBraking s).transport = s.transport ∧ (endBraking s).lamp = s.lamp
    ∧ (endBraking s).power = s.power ∧ (endBraking s).line = s.line ∧ (endBraking s).handset = s.handset
    ∧ (endBraking s).log = s.log ∧ (endBraking s).path = s.path := by
  unfold endBraking
  split <;> simp

@[simp] theorem tapeEnded_frame (s : State) :
    (tapeEnded s).pending = s.pending ∧ (tapeEnded s).free = s.free ∧ (tapeEnded s).clock = s.clock
    ∧ (tapeEnded s).transport = s.transport ∧ (tapeEnded s).lamp = s.lamp ∧ (tapeEnded s).power = s.power
    ∧ (tapeEnded s).line = s.line ∧ (tapeEnded s).handset = s.handset ∧ (tapeEnded s).path = s.path := by simp [tapeEnded]

/-! ### Sys2Proof/Machine/LineUnit.lean -/

@[simp] theorem frameSent_frame (s : State) :
    (frameSent s).pending = s.pending ∧ (frameSent s).free = s.free ∧ (frameSent s).clock = s.clock
    ∧ (frameSent s).engine = s.engine ∧ (frameSent s).transport = s.transport ∧ (frameSent s).lamp = s.lamp
    ∧ (frameSent s).power = s.power ∧ (frameSent s).deck = s.deck ∧ (frameSent s).decoder = s.decoder
    ∧ (frameSent s).writer = s.writer ∧ (frameSent s).handset = s.handset ∧ (frameSent s).log = s.log
    ∧ (frameSent s).path = s.path := by
  unfold frameSent
  split <;> simp

/-! ### Sys2Proof/Machine/Follower.lean -/

@[simp] theorem postStep_frame (d : Int) (s : State) :
    (postStep d s).pending = s.pending ∧ (postStep d s).free = s.free ∧ (postStep d s).clock = s.clock
    ∧ (postStep d s).engine = s.engine ∧ (postStep d s).transport = s.transport ∧ (postStep d s).lamp = s.lamp
    ∧ (postStep d s).power = s.power ∧ (postStep d s).deck = s.deck ∧ (postStep d s).decoder = s.decoder
    ∧ (postStep d s).writer = s.writer ∧ (postStep d s).line = s.line ∧ (postStep d s).handset = s.handset
    ∧ (postStep d s).path = s.path := by
  unfold postStep
  split <;> simp

@[simp] theorem takeSync_frame (lead here : Clock32) (s : State) :
    (takeSync lead here s).pending = s.pending ∧ (takeSync lead here s).free = s.free
    ∧ (takeSync lead here s).clock = s.clock ∧ (takeSync lead here s).engine = s.engine
    ∧ (takeSync lead here s).transport = s.transport ∧ (takeSync lead here s).lamp = s.lamp
    ∧ (takeSync lead here s).power = s.power ∧ (takeSync lead here s).deck = s.deck
    ∧ (takeSync lead here s).decoder = s.decoder ∧ (takeSync lead here s).writer = s.writer
    ∧ (takeSync lead here s).handset = s.handset ∧ (takeSync lead here s).path = s.path := by
  unfold takeSync
  split <;> simp

@[simp] theorem countLineError_frame (s : State) :
    (countLineError s).pending = s.pending ∧ (countLineError s).free = s.free ∧ (countLineError s).clock = s.clock
    ∧ (countLineError s).engine = s.engine ∧ (countLineError s).transport = s.transport
    ∧ (countLineError s).lamp = s.lamp ∧ (countLineError s).power = s.power ∧ (countLineError s).deck = s.deck
    ∧ (countLineError s).decoder = s.decoder ∧ (countLineError s).writer = s.writer
    ∧ (countLineError s).handset = s.handset ∧ (countLineError s).log = s.log ∧ (countLineError s).path = s.path := by simp [countLineError]

@[simp] theorem postLink_frame (k : CueKind) (t16 : Word) (s : State) :
    (postLink k t16 s).pending = s.pending ∧ (postLink k t16 s).free = s.free ∧ (postLink k t16 s).clock = s.clock
    ∧ (postLink k t16 s).transport = s.transport ∧ (postLink k t16 s).lamp = s.lamp
    ∧ (postLink k t16 s).power = s.power ∧ (postLink k t16 s).deck = s.deck ∧ (postLink k t16 s).decoder = s.decoder
    ∧ (postLink k t16 s).writer = s.writer ∧ (postLink k t16 s).line = s.line
    ∧ (postLink k t16 s).handset = s.handset ∧ (postLink k t16 s).path = s.path := by simp [postLink]

@[simp] theorem takeBroadcast_frame (f : LinkFrame) (s : State) :
    (takeBroadcast f s).pending = s.pending ∧ (takeBroadcast f s).free = s.free
    ∧ (takeBroadcast f s).clock = s.clock ∧ (takeBroadcast f s).transport = s.transport
    ∧ (takeBroadcast f s).lamp = s.lamp ∧ (takeBroadcast f s).power = s.power ∧ (takeBroadcast f s).deck = s.deck
    ∧ (takeBroadcast f s).decoder = s.decoder ∧ (takeBroadcast f s).writer = s.writer
    ∧ (takeBroadcast f s).handset = s.handset ∧ (takeBroadcast f s).path = s.path := by
  unfold takeBroadcast
  (repeat' split) <;> simp

end Sys2Proof.Machine
end

