-- ==== Sys2Proof/Laws/Memory.lean ====
section
/-! SUPPORT. The addressed stores: a read after a write, and that every operation keeps the canonical form. -/

namespace Sys2Proof.Machine

/-! ### Sorted lists -/

theorem assocSortedFrom_mono {α : Type} {lo lo' : Nat} (h : lo' ≤ lo) (m : Assoc α) :
    assocSortedFrom lo m = true → assocSortedFrom lo' m = true := by
  cases m with
  | nil => simp [assocSortedFrom]
  | cons c t =>
    obtain ⟨i, v⟩ := c
    simp only [assocSortedFrom, Bool.and_eq_true, decide_eq_true_eq]
    rintro ⟨h1, h2⟩
    exact ⟨Nat.le_trans h h1, h2⟩

theorem assocSetFrom_sorted {α : Type} (m : Assoc α) (lo k : Nat) (v : α) (hk : lo ≤ k) :
    assocSortedFrom lo m = true → assocSortedFrom lo (assocSet m k v) = true := by
  induction m generalizing lo with
  | nil => simp [assocSet, assocSortedFrom, hk]
  | cons c t ih =>
    obtain ⟨i, w⟩ := c
    simp only [assocSortedFrom, Bool.and_eq_true, decide_eq_true_eq, assocSet]
    rintro ⟨h1, h2⟩
    split
    · next hlt => simp [assocSortedFrom, hk, h2]; omega
    · split
      · next heq => subst heq; simp [assocSortedFrom, hk, h2]
      · next hlt hne =>
        simp only [assocSortedFrom, Bool.and_eq_true, decide_eq_true_eq]
        exact ⟨h1, ih (i + 1) (by omega) h2⟩

theorem assocEraseFrom_sorted {α : Type} (m : Assoc α) (lo k : Nat) :
    assocSortedFrom lo m = true → assocSortedFrom lo (assocErase m k) = true := by
  induction m generalizing lo with
  | nil => simp [assocErase]
  | cons c t ih =>
    obtain ⟨i, w⟩ := c
    simp only [assocSortedFrom, Bool.and_eq_true, decide_eq_true_eq, assocErase]
    rintro ⟨h1, h2⟩
    split
    · exact assocSortedFrom_mono (by omega) t h2
    · simp only [assocSortedFrom, Bool.and_eq_true, decide_eq_true_eq]
      exact ⟨h1, ih (i + 1) h2⟩

/-- A write keeps the keys strictly rising. -/
theorem assocSet_sorted {α : Type} (m : Assoc α) (k : Nat) (v : α) (h : assocSorted m = true) :
    assocSorted (assocSet m k v) = true := assocSetFrom_sorted m 0 k v (Nat.zero_le k) h

/-- An erasure keeps the keys strictly rising. -/
theorem assocErase_sorted {α : Type} (m : Assoc α) (k : Nat) (h : assocSorted m = true) :
    assocSorted (assocErase m k) = true := assocEraseFrom_sorted m 0 k h

/-! ### Reading -/

/-- A key below the least possible one is not listed. -/
theorem assocGet_below {α : Type} (m : Assoc α) (lo k : Nat) (hk : k < lo) (h : assocSortedFrom lo m = true) :
    assocGet m k = none := by
  induction m generalizing lo with
  | nil => rfl
  | cons c t ih =>
    obtain ⟨i, w⟩ := c
    simp only [assocSortedFrom, Bool.and_eq_true, decide_eq_true_eq] at h
    simp only [assocGet]
    rw [if_neg (by omega)]
    exact ih (i + 1) (by omega) h.2

/-- A read after a write to the same key gives the value written, and every other key reads as before. -/
theorem assocGet_set {α : Type} (m : Assoc α) (k j : Nat) (v : α) :
    assocGet (assocSet m k v) j = if k = j then some v else assocGet m j := by
  induction m with
  | nil => simp [assocSet, assocGet]
  | cons c t ih =>
    obtain ⟨i, w⟩ := c
    simp only [assocSet]
    split
    · simp [assocGet]
    · split
      · next heq => subst heq; simp only [assocGet]; split <;> rfl
      · next hne =>
        simp only [assocGet, ih]
        split
        · next hij => subst hij; simp [Ne.symm hne]
        · rfl

/-- A read after an erasure: the key is not listed, and every other key reads as before. -/
theorem assocGet_erase {α : Type} (m : Assoc α) (k j : Nat) (h : assocSorted m = true) :
    assocGet (assocErase m k) j = if k = j then none else assocGet m j := by
  suffices H : ∀ lo, assocSortedFrom lo m = true →
      assocGet (assocErase m k) j = if k = j then none else assocGet m j from H 0 h
  clear h
  induction m with
  | nil => simp [assocErase, assocGet]
  | cons c t ih =>
    obtain ⟨i, w⟩ := c
    intro lo h
    simp only [assocSortedFrom, Bool.and_eq_true, decide_eq_true_eq] at h
    simp only [assocErase]
    split
    · next hik =>
      subst hik
      by_cases hj : i = j
      · subst hj
        simp [assocGet_below t (i + 1) i (by omega) h.2]
      · simp [assocGet, hj]
    · next hne =>
      simp only [assocGet, ih (i + 1) h.2]
      split
      · next hij => subst hij; simp [Ne.symm hne]
      · rfl

/-! ### Byte stores -/

/-- No byte of a store written to is 0, when that holds before. -/
theorem setByte_nonzero (m : Bytes) (k : Nat) (b : Byte)
    (h : m.all (fun c => decide (c.2 ≠ unlistedByte)) = true) :
    (setByte m k b).all (fun c => decide (c.2 ≠ unlistedByte)) = true := by
  have herase : ∀ l : Bytes, l.all (fun c => decide (c.2 ≠ unlistedByte)) = true →
      (assocErase l k).all (fun c => decide (c.2 ≠ unlistedByte)) = true := by
    intro l hl
    induction l with
    | nil => simp [assocErase]
    | cons c t ih =>
      obtain ⟨i, w⟩ := c
      simp only [List.all_cons, Bool.and_eq_true] at hl
      simp only [assocErase]
      split
      · exact hl.2
      · simp only [List.all_cons, Bool.and_eq_true]
        exact ⟨hl.1, ih hl.2⟩
  have hset : b ≠ unlistedByte → ∀ l : Bytes, l.all (fun c => decide (c.2 ≠ unlistedByte)) = true →
      (assocSet l k b).all (fun c => decide (c.2 ≠ unlistedByte)) = true := by
    intro hb l hl
    induction l with
    | nil => simpa [assocSet] using hb
    | cons c t ih =>
      obtain ⟨i, w⟩ := c
      simp only [List.all_cons, Bool.and_eq_true] at hl
      simp only [assocSet]
      split
      · simp only [List.all_cons, Bool.and_eq_true]
        exact ⟨by simpa using hb, hl.1, hl.2⟩
      · split
        · simp only [List.all_cons, Bool.and_eq_true]
          exact ⟨by simpa using hb, hl.2⟩
        · simp only [List.all_cons, Bool.and_eq_true]
          exact ⟨hl.1, ih hl.2⟩
  unfold setByte
  split
  · exact herase m h
  · next hb => exact hset hb m h

/-- Every write of a byte keeps the canonical form. -/
theorem setByte_wf (m : Bytes) (k : Nat) (b : Byte) (h : Memory.wf m = true) : Memory.wf (setByte m k b) = true := by
  simp only [Memory.wf, Bool.and_eq_true] at h ⊢
  refine ⟨?_, setByte_nonzero m k b h.2⟩
  unfold setByte
  split
  · exact assocErase_sorted m k h.1
  · exact assocSet_sorted m k b h.1

/-- A byte read after a write: the byte written at its key, every other byte as before. -/
theorem byteAt_setByte (m : Bytes) (k j : Nat) (b : Byte) (h : Memory.wf m = true) :
    byteAt (setByte m k b) j = if k = j then b else byteAt m j := by
  simp only [Memory.wf, Bool.and_eq_true] at h
  unfold byteAt setByte
  split
  · next hb =>
    rw [assocGet_erase m k j h.1]
    split
    · simp [hb]
    · rfl
  · rw [assocGet_set]
    split <;> rfl

/-- A byte that passes keeps the canonical form of its capture. -/
theorem captureByte_wf (c : Capture) (k : Nat) (b : Byte) (h : captureWf c = true) :
    captureWf (captureByte c k b) = true := by
  simp only [captureWf, Bool.and_eq_true] at h ⊢
  exact ⟨setByte_wf c.bytes k b h.1, assocSet_sorted c.marks k () h.2⟩

/-- Clearing the capture flags keeps the canonical form. -/
theorem clearMarks_wf (c : Capture) (h : captureWf c = true) : captureWf (clearMarks c) = true := by
  simp only [captureWf, Bool.and_eq_true] at h ⊢
  exact ⟨h.1, rfl⟩

/-- A byte that passes is captured, and every other flag stays. -/
theorem captured_captureByte (c : Capture) (k j : Nat) (b : Byte) :
    captured (captureByte c k b) j = (decide (k = j) || captured c j) := by
  simp only [captured, assocHas, captureByte, assocGet_set]
  by_cases h : k = j <;> simp [h]

/-- A key is listed after a write where it was listed or written. -/
theorem assocHas_set {α : Type} (m : Assoc α) (o k : Nat) (v : α) :
    assocHas (assocSet m o v) k = (decide (k = o) || assocHas m k) := by
  simp only [assocHas, assocGet_set]
  split <;> simp_all [eq_comm]

/-- A captured byte is copied with its flag, and every other byte and flag stays (R184, R187, R188). -/
theorem captureByte_spec (c : Capture) (o : Nat) (b : Byte) (h : captureWf c = true) :
    byteAt (captureByte c o b).bytes o = b ∧ captured (captureByte c o b) o = true ∧
      ∀ k, k ≠ o → byteAt (captureByte c o b).bytes k = byteAt c.bytes k ∧
        captured (captureByte c o b) k = captured c k := by
  have wf : Memory.wf c.bytes = true := by
    simp only [captureWf, Bool.and_eq_true] at h
    exact h.1
  refine ⟨?_, ?_, fun k hk => ⟨?_, ?_⟩⟩
  · rw [captureByte]
    simp [byteAt_setByte _ _ _ _ wf]
  · simp [captured_captureByte]
  · rw [captureByte]
    simp [byteAt_setByte _ _ _ _ wf, Ne.symm hk]
  · simp [captured_captureByte, Ne.symm hk]

/-- The settings brought up to date keep the canonical form (R188). -/
theorem replaceBytes_wf (m : Bytes) (l : Assoc Unit) (b : Bytes) (h : Memory.wf b = true) :
    Memory.wf (replaceBytes m l b) = true := by
  induction l generalizing b with
  | nil => exact h
  | cons c t ih => exact ih _ (setByte_wf b _ _ h)

/-- The stores of the state after reset are in their canonical form. -/
theorem reset_stores_wf :
    Memory.wf State.reset.path.settings = true ∧ captureWf State.reset.path.header = true
      ∧ captureWf State.reset.path.program = true ∧ captureWf State.reset.path.mirror = true
      ∧ assocSorted State.reset.writer.slots = true := by decide

/-- Cells laid by the writer keep the slots sorted. -/
theorem layCells_sorted (w : Writer) (d : Nat) (cs : List Symbol) (h : assocSorted w.slots = true) :
    assocSorted (layCells w d cs).slots = true := by
  induction cs generalizing w d with
  | nil => exact h
  | cons c t ih => exact ih _ _ (assocSet_sorted _ _ _ h)

/-- Laying cells moves neither the pointer nor the sequence number. -/
theorem layCells_frame (w : Writer) (d : Nat) (cs : List Symbol) :
    (layCells w d cs).pointer = w.pointer ∧ (layCells w d cs).sequence = w.sequence
      ∧ (layCells w d cs).syncRun = w.syncRun ∧ (layCells w d cs).level = w.level
      ∧ (layCells w d cs).cellTimer = w.cellTimer := by
  induction cs generalizing w d with
  | nil => simp [layCells]
  | cons c t ih => simp [layCells, ih]

/-! ### Runs of offsets -/

/-- A run of capture flags is complete when each flag of it is set. -/
theorem capturedAll_iff (c : Capture) (lo n : Nat) :
    capturedAll c lo n = true ↔ ∀ o, lo ≤ o → o < lo + n → captured c o = true := by
  induction n with
  | zero => simp [capturedAll]; omega
  | succ n ih =>
    simp only [capturedAll, Bool.and_eq_true, ih]
    refine ⟨fun ⟨h1, h2⟩ o ho hn => ?_, fun h => ⟨h _ (by omega) (by omega), fun o a b => h o a (by omega)⟩⟩
    by_cases e : o = lo + n
    · exact e ▸ h1
    · exact h2 o ho (by omega)

/-- A run of keys is listed when each key of it is. -/
theorem assocHasAll_iff {α : Type} (m : Assoc α) (lo n : Nat) :
    assocHasAll m lo n = true ↔ ∀ o, lo ≤ o → o < lo + n → assocHas m o = true := by
  induction n with
  | zero => simp [assocHasAll]; omega
  | succ n ih =>
    simp only [assocHasAll, Bool.and_eq_true, ih]
    refine ⟨fun ⟨h1, h2⟩ o ho hn => ?_, fun h => ⟨h _ (by omega) (by omega), fun o a b => h o a (by omega)⟩⟩
    by_cases e : o = lo + n
    · exact e ▸ h1
    · exact h2 o ho (by omega)

/-- A run of keys is listed in part when some key of it is. -/
theorem assocHasAny_iff {α : Type} (m : Assoc α) (lo n : Nat) :
    assocHasAny m lo n = true ↔ ∃ o, lo ≤ o ∧ o < lo + n ∧ assocHas m o = true := by
  induction n with
  | zero => simp [assocHasAny]; omega
  | succ n ih =>
    simp only [assocHasAny, Bool.or_eq_true, ih]
    constructor
    · rintro (h | ⟨o, a, b, h⟩)
      · exact ⟨_, by omega, by omega, h⟩
      · exact ⟨o, a, by omega, h⟩
    · rintro ⟨o, a, b, h⟩
      by_cases e : o = lo + n
      · exact .inl (e ▸ h)
      · exact .inr ⟨o, a, by omega, h⟩

/-- What the settings read after the bytes at the offsets listed have replaced theirs (R188). -/
theorem byteAt_replaceBytes (m : Bytes) (l : Assoc Unit) (b : Bytes) (h : Memory.wf b = true) (o : Nat) :
    byteAt (replaceBytes m l b) o = if assocHas l o = true then byteAt m o else byteAt b o := by
  induction l generalizing b with
  | nil => simp [replaceBytes, assocHas, assocGet]
  | cons c t ih =>
    rw [replaceBytes, ih _ (setByte_wf _ _ _ h), byteAt_setByte _ _ _ _ h]
    simp only [assocHas, assocGet]
    by_cases e : c.1 = o
    · subst e; simp
    · simp [e]

/-! ### The writer's slots -/

/-- A run of slots is free when each slot of it is (R136). -/
theorem freeRun_iff (w : Writer) (d n : Nat) :
    freeRun w d n = true ↔ ∀ i, i < n → assocHas w.slots ((w.pointer + (d + i)) % 256) = false := by
  induction n generalizing d with
  | zero => simp [freeRun]
  | succ n ih =>
    simp only [freeRun, Bool.and_eq_true, Bool.not_eq_true', ih]
    constructor
    · rintro ⟨h1, h2⟩ i hi
      cases i with
      | zero => simpa using h1
      | succ i =>
        have := h2 i (by omega)
        rwa [show d + 1 + i = d + (i + 1) by omega] at this
    · intro h
      refine ⟨by simpa using h 0 (by omega), fun i hi => ?_⟩
      have := h (i + 1) (by omega)
      rwa [show d + (i + 1) = d + 1 + i by omega] at this

/-- The search for a place fails when no offset tried has room, and otherwise finds the first that has (R137). -/
theorem firstFit_eq (w : Writer) (n d fuel : Nat) :
    (firstFit w n d fuel = none ↔ ∀ e, d ≤ e → e < d + fuel → freeRun w e n = false) ∧
      ∀ e, d ≤ e → e < d + fuel → freeRun w e n = true → (∀ e', d ≤ e' → e' < e → freeRun w e' n = false) →
        firstFit w n d fuel = some e := by
  induction fuel generalizing d with
  | zero => refine ⟨⟨fun _ e _ _ => by omega, fun _ => rfl⟩, fun e _ _ => by omega⟩
  | succ fuel ih =>
    simp only [firstFit]
    cases hd : freeRun w d n with
    | true =>
      refine ⟨⟨fun h => by simp at h, fun h => ?_⟩, fun e h1 h2 _ hb => ?_⟩
      · simpa [hd] using h d (by omega) (by omega)
      · by_cases q : d = e
        · simp [q]
        · simpa [hd] using hb d (by omega) (by omega)
    | false =>
      refine ⟨⟨fun h e h1 h2 => ?_, fun h => ?_⟩, fun e h1 h2 he hb => ?_⟩
      · by_cases q : e = d
        · exact q ▸ hd
        · exact (ih (d + 1)).1.1 (by simpa using h) e (by omega) (by omega)
      · simpa using (ih (d + 1)).1.2 fun e a b => h e (by omega) (by omega)
      · have q : d ≠ e := fun q => by simp [q, he] at hd
        simpa using (ih (d + 1)).2 e (by omega) (by omega) he fun e' a b => hb e' (by omega) b

/-- What a slot holds after cells are laid: the cell laid in it, or what it held before. -/
theorem layCells_slots (w : Writer) (d : Nat) (cs : List Symbol) (k : Nat) (hl : cs.length ≤ 256) :
    (∀ i, i < cs.length → assocGet (layCells w d cs).slots ((w.pointer + (d + i)) % 256) = cs[i]?) ∧
      ((∀ i, i < cs.length → k ≠ (w.pointer + (d + i)) % 256) →
        assocGet (layCells w d cs).slots k = assocGet w.slots k) := by
  induction cs generalizing w d k with
  | nil => simp [layCells]
  | cons c cs ih =>
    simp only [List.length_cons] at hl
    have rest := fun k => ih { w with slots := assocSet w.slots ((w.pointer + d) % 256) c } (d + 1) k (by omega)
    simp only [layCells]
    constructor
    · intro i hi
      cases i with
      | zero =>
        rw [(rest _).2]
        · simp [assocGet_set]
        · intro i hi
          simp only [Nat.add_zero]
          omega
      | succ i =>
        have t := (rest 0).1 i (by simpa using hi)
        simp only at t
        rw [show d + (i + 1) = d + 1 + i by omega, t]
        simp
    · intro h
      rw [(rest k).2, assocGet_set]
      · have first := h 0 (by simp)
        simp only [Nat.add_zero] at first
        simp [Ne.symm first]
      · intro i hi
        have := h (i + 1) (by simpa using hi)
        rwa [show d + (i + 1) = d + 1 + i by omega] at this

end Sys2Proof.Machine
end

