-- ==== Sys2Proof/Laws/State.lean ====
section
/-! SUPPORT. What each named update does to the one block it changes; that it leaves every other block is in the frame files.
Each lemma is true by rfl. -/

namespace Sys2Proof.Machine

/-! ### The log and the flags -/

@[simp] theorem setFlag_log (f : FaultFlag) (s : State) :
    (setFlag f s).log = { s.log with flags := s.log.flags ||| f.mask } := rfl

@[simp] theorem acknowledge_log (v : Word) (s : State) :
    (acknowledge v s).log =
      { s.log with
        flags := (s.log.flags &&& ~~~v) ||| (v &&& persistWord s allFlags)
        lost := if v.getLsbD 15 then 0 else s.log.lost } := rfl

/-! ### The cue engine -/

@[simp] theorem setRunState_engine (r : RunState) (s : State) :
    (setRunState r s).engine = { s.engine with runState := r } := rfl

@[simp] theorem noExecuting_engine (s : State) : (noExecuting s).engine = { s.engine with cue := none } := rfl

@[simp] theorem limitPointer_engine (s : State) :
    (limitPointer s).engine = { s.engine with pointer := min s.engine.pointer (entriesInForce s) } := rfl

@[simp] theorem setPointer_engine (p : Nat) (s : State) :
    (setPointer p s).engine = { s.engine with pointer := min p (entriesInForce s) } := rfl

/-! ### The slide transport -/

@[simp] theorem stopMotors_transport (s : State) :
    (stopMotors s).transport =
      { s.transport with
        phase := .none, camRunning := false, camTimer := { left := 0, due := none }, move := none, stepTimer := none,
        stallTimer := none, seatTimer := none } := rfl

@[simp] theorem startRevolution_transport (s : State) :
    (startRevolution s).transport =
      { s.transport with
        camRunning := true, camTimer := { left := 0, due := startTimer (camTimeout s.path.settings) s } } := rfl

@[simp] theorem enterCycling_transport (target : Nat) (s : State) :
    (enterCycling target s).transport =
      { s.transport with
        state := .cycling, size := traySize s.path.settings, sizeChanged := false, target := target, stalls := 0,
        retried := false, seatedAt := none } := rfl

@[simp] theorem stopFocus_transport (s : State) :
    (stopFocus s).transport =
      { s.transport with
        focus := .stopped, focusAllowance := pauseTimer s.clock.now s.transport.focusAllowance } := rfl

@[simp] theorem setMove_transport (v : Move) (s : State) :
    (setMove v s).transport = { s.transport with move := some v } := rfl

@[simp] theorem awaitStep_transport (v : Move) (s : State) :
    (awaitStep v s).transport = { s.transport with move := some v, stepTimer := startTimer (stepInterval v) s } := rfl

@[simp] theorem enterNoTray_transport (s : State) :
    (enterNoTray s).transport =
      { (stopMotors s).transport with
        state := .noTray, stepCount := none, position := none, slotInGate := none, jamCause := none } := rfl

/-! ### The lamp controller -/

@[simp] theorem setRamp_lamp (target t : Nat) (req : Requester) (s : State) :
    (setRamp target t req s).lamp =
      { s.lamp with
        ramp := { l0 := s.lamp.level, l1 := min 1024 target, n := t, k := 0, active := true, requester := some req } } :=
  rfl

@[simp] theorem startSwap_lamp (x : Socket) (failure : Bool) (s : State) :
    (startSwap x failure s).lamp =
      { s.lamp with
        state := .swapping, active := x, duty := 0, openCount := 0, carriageTimer := startTimer twoSeconds s,
        swapStart := s.clock.now, failureSwap := failure } := rfl

@[simp] theorem setSwitches_lamp (primary spare : Bool) (s : State) :
    (setSwitches primary spare s).lamp = { s.lamp with endPrimary := primary, endSpare := spare } := rfl

@[simp] theorem setUsage_lamp (m : Assoc Byte) (s : State) :
    (setUsage m s).lamp =
      { s.lamp with
        usePrimary := { s.lamp.usePrimary with minutes := (live32 m 8).toNat, starts := live16 m 16 }
        useSpare := { s.lamp.useSpare with minutes := (live32 m 12).toNat, starts := live16 m 18 } } := rfl

@[simp] theorem countUsage_lamp (s : State) :
    (countUsage s).lamp =
      { s.lamp with
        usePrimary := usagePeriod (decide (s.lamp.active = .primary) && decide (0 < s.lamp.duty)) s.lamp.usePrimary
        useSpare := usagePeriod (decide (s.lamp.active = .spare) && decide (0 < s.lamp.duty)) s.lamp.useSpare } := rfl

/-! ### The cooling and power unit -/

@[simp] theorem handDuty_power (s : State) : (handDuty s).power = { s.power with handed := s.lamp.duty } := rfl

@[simp] theorem smoothPower_power (s : State) :
    (smoothPower s).power = { s.power with smoothed := stepEighth s.power.smoothed s.power.handed } := rfl

@[simp] theorem enterWatching_power (s : State) :
    (enterWatching s).power =
      { s.power with
        fanWatch := .watching, spinTimer := none, gapTimer := startTimer fanGapUs s, recovery := none } := rfl

/-! ### The deck unit -/

@[simp] theorem audioRamp_deck (target t : Nat) (s : State) :
    (audioRamp target t s).deck =
      { s.deck with ramp := { a0 := s.deck.audio, a1 := min 63 target, n := t, k := 0, active := true } } := rfl

@[simp] theorem setAudio_deck (level : Nat) (s : State) :
    (setAudio level s).deck = { s.deck with audio := level, ramp := { s.deck.ramp with active := false } } := rfl

@[simp] theorem timeMark_deck (sec : Nat) (s : State) :
    (timeMark sec s).deck =
      { s.deck with
        tapeTime := some sec
        second := secondFor s.clock.now s.deck.mode { left := oneSecond, due := none } } := rfl

/-! ### The line unit -/

@[simp] theorem sendFrame_line (m : LineMsg) (s : State) :
    (sendFrame m s).line =
      { s.line with
        state := .sending, current := some m, bit := bitTime s.path.settings
        frameEnd := startTimer (frameBits m * bitTime s.path.settings) s, lineOut := lineBytes m } := rfl

@[simp] theorem enterPowering_line (s : State) :
    (enterPowering s).line =
      { s.line with
        state := .powering, settle := startTimer settleUs s, detectPeriod := none, retry := none, detectCount := 0 } :=
  rfl

@[simp] theorem enterDetect_line (s : State) :
    (enterDetect s).line =
      { s.line with
        state := .detect, detectCount := 0, detectPeriod := startTimer detectPeriodUs s, discharge := none } := rfl

@[simp] theorem enterOff_line (s : State) :
    (enterOff s).line =
      { s.line with
        state := .off, discharge := startTimer dischargeUs s, detectPeriod := none, detectCount := 0, retry := none,
        settle := none } := rfl

/-! ### The handset logic -/

@[simp] theorem showErr_handset (s : State) :
    (showErr s).handset = { s.handset with errTimer := startTimer twoSeconds s } := rfl

@[simp] theorem setEntry_handset (e : List Nat) (s : State) :
    (setEntry e s).handset = { s.handset with entry := e } := rfl

@[simp] theorem restartEntryTimer_handset (s : State) :
    (restartEntryTimer s).handset =
      { s.handset with entryTimer := if s.handset.entry = [] then none else startTimer entryTimerUs s } := rfl

/-! ### The memory path and the clocks -/

@[simp] theorem setTxn_path (t : Txn) (s : State) : (setTxn t s).path = { s.path with txn := some t } := rfl

@[simp] theorem sendUp_path (b : Byte) (s : State) : (sendUp b s).path = { s.path with upOut := some b } := rfl

@[simp] theorem endLeg_path (s : State) : (endLeg s).path = { s.path with legOpen := false, latch := false } := rfl

@[simp] theorem forward_path (b : Byte) (s : State) :
    (forward b s).path = { s.path with legBytes := s.path.legBytes ++ [b] } := rfl

@[simp] theorem endPassed_path (s : State) : (endPassed s).path = { s.path with latch := latchAfter s } := rfl

@[simp] theorem closeTxn_path (s : State) : (closeTxn s).path = { s.path with txn := none, legOpen := false } := rfl

@[simp] theorem openTxn_path (t : Option Txn) (bs : List Byte) (s : State) :
    (openTxn t bs s).path = { s.path with txn := t, legOpen := t.isSome, legBytes := bs, upOut := none } := rfl

@[simp] theorem restartLampPeriod_clock (s : State) :
    (restartLampPeriod s).clock = { s.clock with lampPeriod := startTimer lampPeriodUs s } := rfl

end Sys2Proof.Machine
end

