-- ==== Sys2Proof/Laws/Ops.lean ====
section
/-! SUPPORT. For each main shared operation, one lemma that says what it can do, to be cited in place of the operation's text. -/

namespace Sys2Proof.Machine

/-! ### Numbers -/

theorem clamp_bounds {lo hi : Nat} (h : lo ≤ hi) (x : Nat) : lo ≤ clamp lo hi x ∧ clamp lo hi x ≤ hi := by
  unfold clamp; omega

theorem satInc_le (top x : Nat) : satInc top x ≤ top := Nat.min_le_left _ _

theorem le_satInc {top x : Nat} (h : x ≤ top) : x ≤ satInc top x := by unfold satInc; omega

/-- The point of a ramp lies between its ends (R65, R112). -/
theorem lerp_between {a b k n : Nat} (h : k ≤ n) : min a b ≤ lerp a b k n ∧ lerp a b k n ≤ max a b := by
  have part : ∀ d : Nat, d * k / n ≤ d := fun d => by
    rcases Nat.eq_zero_or_pos n with rfl | hn
    · simp
    · exact Nat.div_le_of_le_mul (Nat.mul_comm n d ▸ Nat.mul_le_mul_left d h)
  unfold lerp
  split
  · have h := part (b - a)
    generalize (b - a) * k / n = q at *
    omega
  · have h := part (a - b)
    generalize (a - b) * k / n = q at *
    omega

/-- An eighth of the way stays between the two (R95, R121). -/
theorem stepEighth_between (a b : Nat) : min a b ≤ stepEighth a b ∧ stepEighth a b ≤ max a b := by
  unfold stepEighth
  split <;> omega

/-- A time on the show clock has passed at that time itself (R17). -/
@[simp] theorem hasPassed_self (t : Clock32) : hasPassed t t = true := by simp [hasPassed, elapsed]

/-! ### The log and the flags -/

/-- Posting: the new entry at the tail; at a full ring the oldest is lost, counted and flagged (R204). -/
theorem post_log (k : LogKind) (src : LogSource) (cueNo : Word) (slot : Byte) (d1 d2 : Nat) (s : State) :
    (post k src cueNo slot d1 d2 s).log =
      (let e : LogEntry :=
        { sequence := s.log.next, kind := k, source := src, time := s.clock.showClock, cueNo := cueNo, slot := slot,
          detail1 := toWord d1, detail2 := toWord d2 }
       if s.log.ring.length < 64 then { s.log with ring := s.log.ring ++ [e], next := s.log.next + 1 }
       else
         { ring := s.log.ring.drop (s.log.ring.length - 63) ++ [e], next := s.log.next + 1,
           lost := satInc 255 s.log.lost, flags := s.log.flags ||| FaultFlag.logOverflow.mask }) := by
  unfold post
  split <;> rfl

/-- Posting keeps the ring within 64 entries (R204). -/
theorem post_ring_length (k : LogKind) (src : LogSource) (cueNo : Word) (slot : Byte) (d1 d2 : Nat) (s : State) :
    (post k src cueNo slot d1 d2 s).log.ring.length ≤ 64 := by
  rw [post_log]
  dsimp only
  split <;> simp <;> omega

/-- A flag that is set stays set under posting (R207). -/
theorem post_flagOn {s : State} {f : FaultFlag} (h : flagOn s f = true) (k : LogKind) (src : LogSource) (cueNo : Word)
    (slot : Byte) (d1 d2 : Nat) : flagOn (post k src cueNo slot d1 d2 s) f = true := by
  unfold flagOn at *
  rw [post_log]
  dsimp only
  split <;> simp [h]

/-- A setting event sets its flag and keeps the others (R207). -/
theorem setFlag_flagOn (f g : FaultFlag) (s : State) : flagOn (setFlag f s) g = (flagOn s g || decide (g = f)) := by
  unfold flagOn
  rw [setFlag_log]
  simp only [BitVec.getLsbD_or]
  congr 1
  revert f g
  intro f g
  cases f <;> cases g <;> decide

/-- A posted entry changes the log alone: the next sequence number goes on by one, and the entry stands last (R202). -/
theorem postGate_spec (k : LogKind) (src : LogSource) (cueNo : Word) (d1 d2 : Nat) (s : State) :
    postGate k src cueNo d1 d2 s = { s with log := (postGate k src cueNo d1 d2 s).log } ∧
      (postGate k src cueNo d1 d2 s).log.next = s.log.next + 1 ∧
      (postGate k src cueNo d1 d2 s).log.ring.getLast? =
        some { sequence := s.log.next, kind := k, source := src, time := s.clock.showClock, cueNo := cueNo,
               slot := slotByte s.transport.slotInGate, detail1 := toWord d1, detail2 := toWord d2 } := by
  unfold postGate post
  dsimp only
  split <;> simp

/-! ### The cue engine -/

/-- A posting discards, queues or refuses (R8, R9). -/
theorem postCue_cases (src : CueSource) (k : CueKind) (start : Option Clock32) (s : State) :
    (s.engine.runState = .stopped ∧ discardedStopped src k = true ∧ postCue src k start s = (s, .discarded)) ∨
    (s.engine.queue.length < 4 ∧
      postCue src k start s =
        ({ s with engine := { s.engine with
            queue := s.engine.queue ++ [{ source := src, kind := k, arrival := s.clock.showClock, start := start }] } },
         .queued)) ∨
    (4 ≤ s.engine.queue.length ∧
      postCue src k start s = (postGate .cueRefused (.cue src) k.number k.code 0 s, .refused)) := by
  unfold postCue
  split
  · rename_i h; exact .inl ⟨h.1, h.2, rfl⟩
  · split
    · rename_i h; exact .inr (.inl ⟨h, rfl⟩)
    · rename_i h; exact .inr (.inr ⟨by omega, rfl⟩)

theorem postCuesDropped_engine (cs : List Cue) (s : State) : (postCuesDropped cs s).engine = s.engine := by
  simp

/-- Clearing the queue leaves the rest of the engine (R6). -/
@[simp] theorem clearQueue_engine (s : State) : (clearQueue s).engine = { s.engine with queue := [] } := by
  simp [clearQueue]

@[simp] theorem completeCue_engine (e : Executing) (s : State) : (completeCue e s).engine = { s.engine with cue := none } := by
  simp [completeCue]

@[simp] theorem postExecutingDropped_engine (e : Executing) (p : Nat) (s : State) :
    (postExecutingDropped e p s).engine = s.engine := by simp [postExecutingDropped]

/-- The lamp request of a STOP or an END reaches no engine state (R61). -/
@[simp] theorem engineRampUnowned_engine (target t : Nat) (s : State) : (engineRampUnowned target t s).engine = s.engine := by
  unfold engineRampUnowned
  split
  · rfl
  · rfl

@[simp] theorem finishStopping_engine (s : State) : (finishStopping s).engine = { s.engine with cue := none } := by
  unfold finishStopping
  dsimp only
  split <;> simp

@[simp] theorem stopAgain_engine (e : Executing) (s : State) : (stopAgain e s).engine = s.engine := by
  simp

/-- What STOP leaves of the executing cue (Table 1-6). -/
theorem stopExecuting_engine (s : State) :
    (stopExecuting s).engine = { s.engine with
      cue := match s.engine.cue with
        | none => none
        | some e =>
          if e.stopping then some e
          else match e.phase with
            | .waiting => none
            | .fadingOut => none
            | .changing => some { e with stopping := true }
            | .fadingIn => if e.cycle then some { e with stopping := true, awaiting := false } else none } := by
  unfold stopExecuting
  split
  · rename_i h
    have same : s.engine = { s.engine with cue := none } := by rw [← h]
    simp only [h]
    exact same
  · rename_i e h
    split
    · rename_i hs
      have same : s.engine = { s.engine with cue := some e } := by rw [← h]
      simp only [h, hs, if_true, stopAgain_engine]
      exact same
    · rename_i hs
      cases hp : e.phase <;> simp only [h, hs, hp, Bool.false_eq_true, if_false]
      · simp
      · simp
      · simp
      · split <;> simp

/-- A STOP leaves the engine STOPPED with no cue queued (R6). -/
theorem requestStop_engine (s : State) :
    (requestStop s).engine.runState = .stopped ∧ (requestStop s).engine.queue = [] ∧
      (requestStop s).engine.pointer = s.engine.pointer ∧ (requestStop s).engine.lastCue = s.engine.lastCue := by
  simp [requestStop, stopExecuting_engine, fadeAudioOut]

/-- Band HOT, a jam and an abort hold a show that runs or learns (R7). -/
theorem holdShow_runState (s : State) :
    (holdShow s).engine.runState =
      (match s.engine.runState with
        | .running => .held
        | .learning => .held
        | r => r) := by
  unfold holdShow
  cases h : s.engine.runState <;> simp [h]

/-- The abort of a cycle (R25, R7): no cue is queued, and a cue whose cycle it was is gone. -/
theorem abortCycle_engine (s : State) :
    (abortCycle s).engine.queue = [] ∧ ∀ e, s.engine.cue = some e → e.cycle = true → (abortCycle s).engine.cue = none := by
  refine ⟨by simp [abortCycle], fun e he hc => ?_⟩
  unfold abortCycle
  simp only [he, hc, Bool.not_true, Bool.false_eq_true, if_false, clearQueue_engine]
  split <;> (unfold holdShow; split <;> simp)

/-! ### The line unit -/

/-- A part that does not broadcast posts nothing (R16). -/
theorem announce_silent {s : State} (h : broadcasts s = false) (m : LineMsg) : announce m s = s := by simp [announce, h]

/-- The lead's choice (R155): nothing, the head of its queue, a SYNC that is due, or the head of the poll list. -/
theorem chooseFrame_cases (s : State) :
    chooseFrame s = s ∨
    (∃ m rest, s.line.queue = m :: rest ∧ chooseFrame s = sendFrame m s) ∨
    (s.line.queue = [] ∧ s.line.syncDue = true ∧ chooseFrame s = sendSync s) ∨
    (∃ n ns, s.line.queue = [] ∧ s.line.syncDue = false ∧ s.line.pollList = n :: ns ∧
      chooseFrame s = sendFrame (.poll n) s) := by
  unfold chooseFrame
  split
  · exact .inl rfl
  · cases hq : s.line.queue with
    | cons m rest => exact .inr (.inl ⟨m, rest, rfl, rfl⟩)
    | nil =>
      cases hd : s.line.syncDue with
      | true => exact .inr (.inr (.inl ⟨rfl, rfl, by simp⟩))
      | false =>
        cases hp : s.line.pollList with
        | nil => exact .inl (by simp)
        | cons n ns => exact .inr (.inr (.inr ⟨n, ns, rfl, rfl, rfl, by simp⟩))

/-! ### The deck -/

/-- A deck that is given a mode is in it (R106). -/
@[simp] theorem setDeckMode_mode (m : DeckMode) (s : State) : (setDeckMode m s).deck.mode = m := by
  unfold setDeckMode
  split
  · assumption
  · rfl

/-- A mode request empties the locate record (R109). -/
@[simp] theorem deckRequest_locate (m : DeckMode) (s : State) : (deckRequest m s).deck.locate = none := by
  unfold deckRequest
  dsimp only
  split
  · split
    · unfold setDeckMode; split <;> rfl
    · rfl
  · rfl
  · split
    · rfl
    · unfold startBraking setDeckMode; dsimp only; split <;> rfl

/-! ### The power unit -/

/-- The fan's duty becomes what was asked for; of the power unit only its watch and timers follow (R97, R98). -/
@[simp] theorem setFan_power (f : Nat) (s : State) :
    (setFan f s).power.fanDuty = f ∧ (setFan f s).power.state = s.power.state ∧
      (setFan f s).power.owed = s.power.owed ∧ (setFan f s).power.cooldown = s.power.cooldown ∧
      (setFan f s).power.band = s.power.band ∧ (setFan f s).power.smoothed = s.power.smoothed := by
  unfold setFan
  split
  · rename_i h; simp [h]
  · split <;> simp

/-- A change of the power state keeps the cooldown and the band (R85). -/
theorem setPower_power (st : PowerState) (cause : Nat) (s : State) :
    (setPower st cause s).power.state = st ∧ (setPower st cause s).power.owed = s.power.owed ∧
      (setPower st cause s).power.cooldown = s.power.cooldown ∧ (setPower st cause s).power.band = s.power.band := by
  cases st <;> simp only [setPower, enterPower] <;> (repeat' split) <;> simp

/-- The test of R91 leaves the state, or takes SHUTDOWN to STANDBY. -/
theorem testShutdown_cases (s : State) :
    (shutdownReady s = false ∧ testShutdown s = s) ∨ (shutdownReady s = true ∧ testShutdown s = setPower .standby 5 s) := by
  unfold testShutdown
  cases h : shutdownReady s <;> simp

/-- The test of R91 never reaches the transport: it acts in SHUTDOWN, where the focus motor has been stopped. -/
@[simp] theorem testShutdown_transport (s : State) : (testShutdown s).transport = s.transport := by
  rcases testShutdown_cases s with ⟨-, h⟩ | ⟨hr, h⟩
  · rw [h]
  · have hs : s.power.state = .shutdown := by
      simp only [shutdownReady, Bool.and_eq_true, decide_eq_true_eq] at hr
      exact hr.1.1.1
    rw [h]
    simp [setPower, enterPower, hs]

/-! ### The slide transport -/

/-- Only the phase, the latched table and the cam angle decide which windows are active (R38). -/
theorem camActive_congr {t t' : Transport} (hp : t'.phase = t.phase) (ht : t'.table = t.table)
    (ha : t'.camAngle = t.camAngle) (f : CamFunction) : camActive t' f = camActive t f := by
  unfold camActive
  rw [hp, ht, ha]

/-- The transport after a jam (R50). -/
theorem jam_transport (c : JamCause) (s : State) :
    (jam c s).transport = { s.transport with
      state := .jammed, jamCause := some c, slotInGate := none, phase := .none, camRunning := false,
      camTimer := { left := 0, due := none }, move := none, stepTimer := none, stallTimer := none, seatTimer := none } := by
  simp [jam, stopMotors]

/-- The transport after a completed cycle (R45, R29). -/
theorem completeCycle_transport (s : State) :
    (completeCycle s).transport = { s.transport with
      state := if s.transport.sizeChanged then .unhomed else .ready
      stepCount := if s.transport.sizeChanged then none else some (64 * s.transport.target)
      position := if s.transport.sizeChanged then none else some s.transport.target
      slotInGate := if s.transport.sizeChanged then none else some s.transport.target
      sizeChanged := false, phase := .none, camRunning := false, camTimer := { left := 0, due := none }, move := none,
      stepTimer := none, stallTimer := none, seatTimer := none } := by
  have posted : ∀ (p : Prop) [Decidable p] (x : State),
      (if p then postHandset .advance x else x).transport = x.transport := by
    intro p _ x
    split <;> simp
  cases h : s.transport.sizeChanged <;> simp only [completeCycle, posted] <;> simp [h, stopMotors]

/-! ### The deck's lines, the follower's clock and the memory link -/

/-- In BRAKING the brake line is driven, and in no other mode; in STOP no line is driven (R103). -/
theorem transportLine_eq (s : State) :
    (transportLine s = some .brake ↔ s.deck.mode = .braking) ∧ (transportLine s = none ↔ s.deck.mode = .stop) := by
  unfold transportLine
  cases s.deck.mode <;> simp [DeckMode.line]

/-- A moment `us` microseconds ago lies, on the show clock, the milliseconds back that `us` reaches beyond the part of a
millisecond not yet counted (R164). -/
theorem showClockAgo_within {us : Nat} {s : State} (h : us ≤ s.clock.subMs) : showClockAgo us s = s.clock.showClock := by
  have : (us + 999 - s.clock.subMs) / 1000 = 0 := by omega
  simp [showClockAgo, this]

/-- A transaction starts between transactions with nothing to end first. -/
theorem startTxn_of_none {s : State} (f : State → State) (h : s.path.txn = none) : startTxn f s = f s := by
  have latch : latchAfter s = s.path.latch := by simp [latchAfter, h]
  have same : endPassed s = s := by rw [endPassed, latch]
  simp [startTxn, linkFree, h, same]

/-- A transaction starts from one that passes with the latch shadow that one leaves (R182). -/
theorem startTxn_of_passing {s : State} {x : Txn} (f : State → State) (h : s.path.txn = some x) (hk : x.kind.passes = true) :
    startTxn f s = f (endPassed s) := by
  simp [startTxn, linkFree, h, hk]

/-- A READ or WRITE in progress lets no other transaction start. -/
theorem startTxn_of_busy {s : State} {x : Txn} (f : State → State) (h : s.path.txn = some x) (hk : x.kind.passes = false) :
    startTxn f s = s := by
  simp [startTxn, linkFree, h, hk]

/-- The recognised bytes of Table 9-1 and no others are commands. -/
theorem linkCommand_foreign (b : Byte) : linkCommand b = .foreign ↔ recognisedCommand b = false := by
  simp only [linkCommand, recognisedCommand]
  (repeat' split) <;> simp_all

/-- The bytes that open a READ spell it, with its address high byte first (R181). -/
@[simp] theorem linkStart_read (bs : List Byte) : linkStart (3#8 :: bs) = some (.read (addressPhase bs)) := rfl

/-- The bytes that open a WRITE spell it, with its address high byte first (R181). -/
@[simp] theorem linkStart_write (bs : List Byte) : linkStart (2#8 :: bs) = some (.write (addressPhase bs)) := rfl

/-- The bytes of an address are the address (R181). -/
@[simp] theorem addressPhase_addressBytes (a : Word) : addressPhase (addressBytes a) = .full a := by
  simp only [addressPhase, addressBytes, AddrPhase.full.injEq]
  ext i hi
  simp only [BitVec.getElem_append]
  split <;> simp [BitVec.getElem_setWidth, BitVec.getLsbD_ushiftRight] <;> grind

/-! ### The slide transport -/

/-- Coming to an active FOCUS_HOLD window reaches the focus motor alone (R54). -/
theorem focusGuard_eq (s : State) : focusGuard s = { s with transport := { s.transport with
    focus := (focusGuard s).transport.focus, focusAllowance := (focusGuard s).transport.focusAllowance } } := by
  unfold focusGuard stopFocus
  split <;> rfl

/-- A move that begins keeps its leg, direction and steps, and reaches nothing but the move and its step timer (R32, R33). -/
theorem beginMove_spec (w : MoveStatus) (v : Move) (s : State) : ∃ v' timer,
    beginMove w v s = { s with transport := { s.transport with move := some v', stepTimer := timer } } ∧
      v'.search = v.search ∧ v'.dir = v.dir ∧ v'.remaining = v.remaining ∧ v'.searched = v.searched := by
  unfold beginMove
  split
  · exact ⟨_, _, rfl, rfl, rfl, rfl, rfl⟩
  · split <;> exact ⟨_, _, rfl, rfl, rfl, rfl, rfl⟩

/-- The table latched is that of the settings in force, or the built-in one in its place with CAM_DEFAULT (R37). -/
theorem latchTable_spec (s : State) :
    latchTable s = { s with
      transport := { s.transport with
        table := some (if tableValid (camTableOf s.path.settings) then camTableOf s.path.settings else builtInTable)
        substituted := !tableValid (camTableOf s.path.settings) }
      log := (latchTable s).log } ∧
    (tableValid (camTableOf s.path.settings) = false → flagOn (latchTable s) .camDefault = true) := by
  unfold latchTable
  cases h : tableValid (camTableOf s.path.settings)
  · simp [h, setFlag, flagOn, FaultFlag.mask, FaultFlag.bit]
  · simp [h]

/-- The shorter way between two positions, in steps, is the shorter way in positions (R31). -/
theorem shortestPath_positions (S p t : Nat) (hp : p ≤ S) :
    shortestPath (64 * (S + 1)) (64 * p) (64 * t) =
      (let df := (t + (S + 1) - p) % (S + 1)
       if df ≤ S + 1 - df then (.forward, 64 * df) else (.reverse, 64 * (S + 1 - df))) := by
  unfold shortestPath
  have scaled : (64 * t + 64 * (S + 1) - 64 * p) % (64 * (S + 1)) = 64 * ((t + (S + 1) - p) % (S + 1)) := by
    rw [← Nat.mul_mod_mul_left]
    congr 1
    omega
  simp only [scaled]
  generalize (t + (S + 1) - p) % (S + 1) = df
  split <;> split <;> first | rfl | omega | (simp; omega)

/-- The normal part of a cycle starts, no jam at angle 0: the table is latched, the cam runs in LIFT and the move stands ready
(R37, R40, R48). -/
theorem startNormal_spec (v : Transport → Move)
    (hv : ∀ t t' : Transport, t.size = t'.size → t.target = t'.target → t.stepCount = t'.stepCount → v t = v t')
    (tab : CamTable) (s : State)
    (ht : tab = (if tableValid (camTableOf s.path.settings) then camTableOf s.path.settings else builtInTable))
    (hl : ¬ (tableActive tab .liftCheck 0 = true ∧ s.transport.gate = .seated)) :
    startNormal v s = { s with transport := (startNormal v s).transport, log := (startNormal v s).log } ∧
    (startNormal v s).transport.state = s.transport.state ∧ (startNormal v s).transport.phase = .lift ∧
    (startNormal v s).transport.size = s.transport.size ∧ (startNormal v s).transport.target = s.transport.target ∧
    (startNormal v s).transport.table = some tab ∧ (startNormal v s).transport.camRunning = true ∧
    (tableValid (camTableOf s.path.settings) = false → flagOn (startNormal v s) .camDefault = true) ∧
    ∃ v', (startNormal v s).transport.move = some v' ∧ v'.search = (v s.transport).search ∧
      v'.dir = (v s.transport).dir ∧ v'.remaining = (v s.transport).remaining ∧ v'.searched = (v s.transport).searched := by
  obtain ⟨lt, hlt⟩ : ∃ lt, latchTable s = lt := ⟨_, rfl⟩
  obtain ⟨e1, e2⟩ := latchTable_spec s
  rw [hlt, ← ht] at e1
  rw [hlt] at e2
  obtain ⟨t, ht2⟩ : ∃ t, t = startNormal v s := ⟨_, rfl⟩
  rw [← ht2]
  unfold startNormal at ht2
  simp only [hlt] at ht2
  obtain ⟨mv, timer, hb, h1, h2, h3, h4⟩ :=
    beginMove_spec .prepared
      (v (startRevolution { lt with transport := { lt.transport with
        phase := .lift, stalls := 0, retried := false, seatedAt := none } }).transport)
      (startRevolution { lt with transport := { lt.transport with
        phase := .lift, stalls := 0, retried := false, seatedAt := none } })
  have hv2 : v (startRevolution { lt with transport := { lt.transport with
      phase := .lift, stalls := 0, retried := false, seatedAt := none } }).transport = v s.transport := by
    apply hv <;> rw [e1] <;> rfl
  rw [hv2] at h1 h2 h3 h4
  rw [hb, focusGuard_eq] at ht2
  have hg : lt.transport.gate = s.transport.gate := by rw [e1]
  have ht3 : lt.transport.table = some tab := by rw [e1]
  simp only [startRevolution, ht3] at ht2
  split at ht2
  · rename_i active
    have unseated : lt.transport.gate ≠ .seated := by rw [hg]; exact fun h => hl ⟨active, h⟩
    rw [liftCheck, if_neg (by exact unseated)] at ht2
    rw [ht2]
    refine ⟨?_, ?_, rfl, ?_, ?_, ?_, rfl, e2, mv, rfl, h1, h2, h3, h4⟩ <;> rw [e1]
  · rw [ht2]
    refine ⟨?_, ?_, rfl, ?_, ?_, ?_, rfl, e2, mv, rfl, h1, h2, h3, h4⟩ <;> rw [e1]

/-! ### The handset logic -/

/-- A cue of the handset is queued, or the full queue refuses it and "Err" is shown (R170, R173). -/
theorem postHandset_spec (k : CueKind) (s : State) (hk : discardedStopped .handset k = false) :
    (s.engine.queue.length < 4 → (postHandset k s).handset = s.handset ∧
      (postHandset k s).engine = { s.engine with
        queue := s.engine.queue ++ [{ source := .handset, kind := k, arrival := s.clock.showClock, start := none }] }) ∧
    (4 ≤ s.engine.queue.length → (postHandset k s).engine = s.engine ∧
      (postHandset k s).handset = { s.handset with errTimer := some (s.clock.now + 2000000) }) := by
  rcases postCue_cases .handset k none s with ⟨-, h, -⟩ | ⟨h, e⟩ | ⟨h, e⟩
  · simp [hk] at h
  · refine ⟨fun _ => ?_, fun h' => absurd h (by omega)⟩
    rw [postHandset, e]
    exact ⟨rfl, rfl⟩
  · refine ⟨fun h' => absurd h (by omega), fun _ => ?_⟩
    rw [postHandset, e]
    simp [showErr, startTimer, twoSeconds]

/-- RUN_HOLD moves the run state on, and shows "Err" in LEARNING (R171). -/
theorem keyRunHold_spec (s : State) :
    (keyRunHold s).engine = { s.engine with
      runState := match s.engine.runState with
        | .stopped => .running
        | .running => .held
        | .held => .running
        | .learning => .learning } ∧
    (keyRunHold s).handset = { s.handset with
      errTimer := if s.engine.runState = .learning then some (s.clock.now + 2000000) else s.handset.errTimer } := by
  cases h : s.engine.runState <;>
    simp [keyRunHold, h, requestStart, requestHold, requestResume, setRunState, showErr, startTimer, twoSeconds]
  simp [← h]

/-! ### The lamp -/

/-- The socket LAMP_ON chooses (R60). -/
theorem chosenSocket_eq_some (l : Lamp) (k : Socket) (hg : socketState l k = .good)
    (hc : if l.endPrimary = l.endSpare then k = .primary ∨ l.primary = .failed
      else k = l.active ∨ socketState l l.active = .failed) : chosenSocket l = some k := by
  unfold chosenSocket carriagePosition
  cases h1 : l.endPrimary <;> cases h2 : l.endSpare <;> simp [h1, h2] at hc <;> simp [carriageOf] <;>
    cases k <;> cases h3 : l.active <;> simp_all [socketState, otherSocket]

/-- The curve never falls (R68). -/
theorem curveAt_mono (b : Bytes) (i : Nat) : curveAt b i ≤ curveAt b (i + 1) := Nat.le_max_right _ _

/-- An entry of the curve in force is at most 4095 (R68). -/
theorem curveAt_le (b : Bytes) (i : Nat) : curveAt b i ≤ 4095 := by
  induction i with
  | zero => exact Nat.min_le_left _ _
  | succ i ih => exact Nat.max_le.mpr ⟨Nat.min_le_left _ _, ih⟩

/-- The power of a level is at most 4095 (R68). -/
theorem curvePower_le (b : Bytes) (level : Nat) : curvePower b level ≤ 4095 := by
  unfold curvePower
  dsimp only
  split
  · exact curveAt_le b 16
  · have h1 := curveAt_le b (level / 64 + 1)
    have h2 := curveAt_mono b (level / 64)
    have h3 : (curveAt b (level / 64 + 1) - curveAt b (level / 64)) * (level % 64) / 64 ≤
        curveAt b (level / 64 + 1) - curveAt b (level / 64) :=
      Nat.div_le_of_le_mul (Nat.mul_comm 64 _ ▸ Nat.mul_le_mul_left _ (by omega))
    omega

/-- The draw, and so the duty, is at most 4095 (R71, R72). -/
theorem slewed_le (b : Bytes) (pf vs prev : Nat) : slewed b (compensated b pf vs) prev ≤ 4095 := by
  refine Nat.le_trans (Nat.min_le_left _ _) ?_
  unfold compensated
  split
  · exact Nat.zero_le _
  · exact Nat.min_le_left _ _

end Sys2Proof.Machine
end

