-- ==== Sys2Proof/Tests/Slice0.lean ====
section
/-! SUPPORT. Tests: the well-formedness checks refuse an ill-formed command each; the spec's worked examples; and for every statement
of Sys2Proof/Certificates/Slice0/Obligations.lean that has hypotheses, a state and operands that meet them, clause by clause. -/

namespace Sys2Proof.Machine.Tests

open Sys2Proof Sys2Proof.Machine

/-! ### Well-formedness, and the table word -/

/-- R152: a frame has at least a header and a check byte. -/
theorem test_wf_reply_too_short : (Instr.replyReceived (.bytes [0x31])).wf = false := by decide
/-- R152: a frame has at most four data bytes. -/
theorem test_wf_reply_too_long : (Instr.replyReceived (.bytes [0x31, 0, 0, 0, 0, 0, 0])).wf = false := by decide
/-- R153: a POLL is addressed to 0..3. -/
theorem test_wf_poll_address : (Instr.followerPoll 4).wf = false := by decide
/-- R162: a CUE number above 4095 is a frame error. -/
theorem test_wf_cue_number : (Instr.followerBroadcastCue (.cue 4096 0)).wf = false := by decide
/-- R181: READ STATUS is a recognised command. -/
theorem test_wf_foreign : (Instr.foreignTransaction 0x05).wf = false := by decide
/-- R152: a good SYNC ends at least 63 bit times, of 250 µs at the shortest, after its break began. -/
theorem test_wf_sync_age : (Instr.followerSync 0 15749).wf = false ∧ (Instr.followerSync 0 15750).wf = true := by decide
/-- The five checks let the neighbouring well-formed commands through. -/
theorem test_wf_accepts :
    (Instr.replyReceived (.bytes [0x10, 0xF0])).wf = true ∧ (Instr.followerPoll 3).wf = true ∧
      (Instr.followerBroadcastCue (.cue 4095 0)).wf = true ∧ (Instr.foreignTransaction 0x9F).wf = true := by decide
/-- Table 11-9: the bytes of a READ of the status record; SET LATCH; a word of READ's byte alone has an address of zeros; a word of no
whole byte spells nothing. -/
theorem test_table_word :
    decodeTableWord 24 0x80FF03 = some (.read (.full 0xFF80)) ∧ decodeTableWord 8 0x06 = some .setLatch ∧
      decodeTableWord 8 0x03 = some (.read (.full 0)) ∧ decodeTableWord 8 0x9F = some (.foreignTransaction 0x9F) ∧
      decodeTableWord 0 0x06 = none := by decide
theorem test_withFetchWord :
    (State.reset.withFetchWord 8 0x06).pending = [.setLatch] ∧ State.reset.withFetchWord 0 0x06 = State.reset := ⟨rfl, rfl⟩
/-- Table 11-9: the acknowledgement's WRITE, and a READ cut short after its high address byte. -/
theorem test_link_start :
    linkStart [0x02, 0xFF, 0x9A] = some (.write (.full 0xFF9A)) ∧ linkStart [0x03, 0xFE] = some (.read (.high 0xFE)) := by
  decide

/-! ### The spec's worked examples -/

/-- Table 2-4, S = 80. -/
theorem test_shortest_path :
    shortestPath 5184 (64 * 23) (64 * 24) = (.forward, 64) ∧ shortestPath 5184 (64 * 24) (64 * 23) = (.reverse, 64) ∧
      shortestPath 5184 (64 * 78) (64 * 2) = (.forward, 320) ∧ shortestPath 5184 (64 * 5) (64 * 60) = (.reverse, 1664) ∧
      shortestPath 5184 0 (64 * 80) = (.reverse, 64) := by decide
/-- R32: the first step and the peak of a one-position move with the defaults. -/
theorem test_step_interval :
    stepInterval ⟨false, 24, .forward, .stepping, 0, 64, 0, 400, 20, 2400⟩ = 2500 ∧
      stepInterval ⟨false, 24, .forward, .stepping, 31, 33, 0, 400, 20, 2400⟩ = 980 := by decide
/-- Section 2.2's example: the error of a count of 5,182 is −2, of 5,160 −24, which the log carries as 0xFFE8. -/
theorem test_index_error :
    indexError 2592 5182 = -2 ∧ indexError 2592 5160 = -24 ∧ BitVec.ofInt 16 (-24) = 0xFFE8#16 := by decide
/-- Table 2-6's active angles, and that the default settings hold a valid table (R37). -/
theorem test_built_in_table :
    tableActive builtInTable .shutter 10 = true ∧ tableActive builtInTable .shutter 170 = false ∧
      tableActive builtInTable .trayFree 119 = true ∧ tableActive builtInTable .liftCheck 35 = true ∧
      camTableOf defaultSettings = builtInTable := by decide
/-- Section 3.3's example: 1000 to 0 in three periods. -/
theorem test_falling_ramp : lerp 1000 0 1 3 = 667 ∧ lerp 1000 0 2 3 = 334 ∧ lerp 0 1000 1 3 = 333 := by decide
/-- Section 3.4's worked case: level 409 gives power 949, draw 1,051 at a reading of 760, duty 1,044. -/
theorem test_worked_duty :
    curvePower defaultSettings 409 = 949 ∧ compensated defaultSettings 949 760 = 1051 ∧
      slewed defaultSettings 1051 980 = 1044 := by decide
/-- Section 5.7's example: C goes from 1,920 to 1,925, stays there, and goes to 1,923. -/
theorem test_cell_tracking : track 1920 1960 = 1925 ∧ track 1925 1920 = 1925 ∧ track 1925 1905 = 1923 := by decide
/-- Section 5.7's example: CUE 37 with sequence 2 has header 0x3A and data 0x25, 0x00. -/
theorem test_frame_chars : frameChars 3 2 37 = [0x3A, 0x25, 0x00] := by decide
/-- The header's cells: start 0, data 0 1 0 1 1 1 0 0, parity 1. -/
theorem test_char_cells :
    charCells 0x3A = [.zero, .zero, .one, .zero, .one, .one, .one, .zero, .zero, .one] := by decide
/-- Section 6.7's example: the first request goes to offset 8; with slots 50..251 occupied at pointer 50, REVERSE at 150 meets the
second frame, END at 190 leaves the range, HOLD finds no room. -/
theorem test_first_placement :
    (findPlace { resetWriter with pointer := 40 } 102 none).toOption = some 8 ∧ headerChar 3 0 = 0x38 ∧
      headerChar 6 2 = 0x62 := by decide
theorem test_placement_range :
    (findPlace { resetWriter with pointer := 50 } 62 (some 190)).toOption = none ∧
      (findPlace { resetWriter with pointer := 50 } 62 (some 186)).toOption = some 186 := by decide
theorem test_placement_overlap :
    (findPlace { resetWriter with pointer := 50, slots := [(200, .one)] } 62 (some 150)).toOption = none := by decide
/-- Section 11.5's example: the POLL of the handset and CUE 37 with T16 = 61,308. -/
theorem test_line_bytes :
    lineBytes (.poll 0) = [0x01, 0xFF] ∧ lineBytes (.cue 37 61308) = [0xE2, 0x25, 0x00, 0x7C, 0xEF, 0x8E] ∧
      frameBits (.poll 0) = 26 ∧ frameBits (.cue 37 61308) = 66 := by decide
/-- Section 11.5's example: the handset's reply is a good one of kind 16 with its two data bytes. -/
theorem test_handset_reply : judge (.bytes [0x10, 0x01, 0x8A, 0x65]) = .good 0 16 [0x01, 0x8A] := by decide

/-- A follower whose offset is `offset`, HELD, at show clock `ms`. -/
def synced (offset ms : Clock32) : State :=
  { State.reset with
    clock := { State.reset.clock with showClock := ms }
    line := { State.reset.line with role := .follower, state := .listening, offset := some offset, syncHeld := true } }

/-- Section 7.6's example: T16 = 61,308 heard at local 143,427 with offset 376,600 starts at 143,460; and a frame delayed to
61,383 starts 75 ms before its arrival. -/
theorem test_local_start :
    localStart 61308 (synced 376600 143427) = 143460 ∧ localStart 61308 (synced 376600 143535) = 143460 := by decide

/-- Section 10.4's example: JAM stays set while the transport is JAMMED, the other two flags and the lost count are cleared. -/
theorem test_acknowledge :
    (acknowledge 0x9004
      { State.reset with
        transport := { State.reset.transport with state := .jammed }
        log := { State.reset.log with flags := 0x9004, lost := 3 } }).log =
      { State.reset.log with flags := 0x0004, lost := 0 } := by decide
/-- R177: JAM shows as E02, a slot of 12 as 012, nothing known as three dashes. -/
theorem test_display :
    display { State.reset with log := { State.reset.log with flags := 0x0004 } } = (.letterE, .digit 0, .digit 2) ∧
      display { State.reset with transport := { State.reset.transport with slotInGate := some 12 } } =
        (.digit 0, .digit 1, .digit 2) ∧
      display State.reset = (.dash, .dash, .dash) := by decide
/-- R29's nearest tray size at the edges of its ranges. -/
theorem test_tray_size :
    traySize [(0, 90)] = 80 ∧ traySize [(0, 91)] = 100 ∧ traySize [(0, 120)] = 100 ∧ traySize [(0, 121)] = 140 ∧
      traySize [] = 80 := by decide
/-- R68's example of a curve made monotone. -/
theorem test_monotone_curve :
    curveAt (setByte (setByte (setByte (setByte [] 46 0xF4) 47 0x01) 48 0x2C) 49 0x01) 2 = 500 := by decide
/-- Table 9-4's defaults through the fields that read them. -/
theorem test_default_settings :
    traySize defaultSettings = 80 ∧ lookahead defaultSettings = 8 ∧ rStart defaultSettings = 400 ∧
      rMax defaultSettings = 2400 ∧ stopFade defaultSettings = 100 ∧ powerFade defaultSettings = 200 ∧
      linkMargin defaultSettings = 60 ∧ bitTime defaultSettings = 500 ∧ cooldownMin defaultSettings = 60 := by decide

/-- R103: the lines of the five modes that drive one, and none in STOP. -/
theorem test_transport_lines :
    [DeckMode.play, .record, .fastFwd, .rewind, .braking, .stop].map DeckMode.line =
      [some .play, some .record, some .fastFwd, some .rewind, some .brake, none] := by decide
/-- Table 9-1. -/
theorem test_link_commands :
    [0x02, 0x03, 0x04, 0x05, 0x06, 0x01].map linkCommand =
      [.write, .read, .clearLatch, .readStatus, .setLatch, .foreign] := by decide
/-- R164: 17 ms before 150 ms and 400 µs the show clock read 133; 400 µs before it 150. -/
theorem test_show_clock_ago :
    showClockAgo 17000 { State.reset with clock := { State.reset.clock with showClock := 150, subMs := 400 } } = 133 ∧
      showClockAgo 400 { State.reset with clock := { State.reset.clock with showClock := 150, subMs := 400 } } = 150 := by
  decide
/-- R161: with the count fallen to 1, follower 2 leaves the list unless its exchange runs; after a framing error none does. -/
theorem test_keep_polls :
    keepPolls 1 { resetLine 0 with current := some (.poll 2), pollList := [2, 0] } = [2, 0] ∧
      keepPolls 1 { resetLine 0 with current := some (.poll 0), badFrame := true, pollList := [2] } = [] := by decide

/-! ### Small states -/

/-- The part after reset with its transport changed. -/
def withTransport (f : Transport → Transport) : State := { State.reset with transport := f State.reset.transport }
/-- The part after reset with its engine changed. -/
def withEngine (f : Engine → Engine) : State := { State.reset with engine := f State.reset.engine }
/-- The part after reset with its lamp changed. -/
def withLamp (f : Lamp → Lamp) : State := { State.reset with lamp := f State.reset.lamp }
/-- The part after reset with its power unit changed. -/
def withPower (f : Power → Power) : State := { State.reset with power := f State.reset.power }
/-- The part after reset with its deck changed. -/
def withDeck (f : Deck → Deck) : State := { State.reset with deck := f State.reset.deck }
/-- The part after reset with its decoder changed. -/
def withDecoder (f : Decoder → Decoder) : State := { State.reset with decoder := f State.reset.decoder }
/-- The part after reset with its line unit changed. -/
def withLine (f : Line → Line) : State := { State.reset with line := f State.reset.line }
/-- The part after reset with its handset logic changed. -/
def withHandset (f : Handset → Handset) : State := { State.reset with handset := f State.reset.handset }
/-- The part after reset with its memory path changed. -/
def withPath (f : Path → Path) : State := { State.reset with path := f State.reset.path }

/-- A queued cue of kind `k` from the handset. -/
def cue (k : CueKind) : Cue := { source := .handset, kind := k, arrival := 0, start := none }

/-- An executing plain forward change in phase `p`. -/
def changing (p : CuePhase) (cycle : Bool) : Executing :=
  { source := .handset, kind := .advance,
    plan := { cueNo := 0xFFFF, entry := none, action := .changeFwd, slot := 0, fadeOut := 50, fadeIn := 50, level := 1024,
              audio := none, broadcast := false, early := false, expected := none },
    startMs := 0, startUs := 0, phase := p, awaiting := false, cycle := cycle, stopping := false, seat := none }

/-- A FADE entry waiting for its start. -/
def waitingFade : Executing :=
  { changing .waiting false with
    plan := { cueNo := 11, entry := some 1, action := .fade, slot := 0, fadeOut := 0, fadeIn := 200, level := 512,
              audio := some 63, broadcast := true, early := false, expected := none } }

/-- A stepping move with two steps left. -/
def stepping : Move :=
  { search := false, target := 1, dir := .forward, status := .stepping, done := 62, remaining := 2, searched := 0,
    rStart := 400, rAcc := 20, rMax := 2400 }

/-- A change cycle in LIFT with the cam at angle `a` and the move `v`. -/
def cycling (a : Nat) (v : Move) (f : Transport → Transport) : State :=
  withTransport (fun t => f
    { t with state := .cycling, phase := .lift, stepCount := some 62, position := some 0, camAngle := some a,
             camRunning := true, table := some builtInTable, target := 1, move := some v })

/-- RUNNING with three entries in force, the first of cue number 10 LOADED, the second of 11 LOADED, the third not. -/
def loaded : State :=
  { State.reset with
    engine := { State.reset.engine with runState := .running, queue := [cue (.numbered 11)] }
    path := { State.reset.path with
      map := .mapped { count := 3, program := 0x100, settings := 0x40, live := 0xC0 }
      program := { bytes := [(0, 10), (16, 11)], marks := (List.range 32).map (fun i => (i, ())) } } }

/-! ### Witnesses: the block as a machine, and the resets -/

theorem test_wit_StepRunsFrontCommand :
    ({ State.reset with pending := [.powerKey, .cueTake] } : State).pending = Instr.powerKey :: [.cueTake] := by decide
theorem test_wit_EmptyQueueRunsDueEventOrTick :
    (let s := withEngine (fun e => { e with queue := [cue .advance] })
     s.pending = [] ∧ dueCommand s = some .cueTake) ∧
      State.reset.pending = [] ∧ dueCommand State.reset = none := ⟨⟨rfl, rfl⟩, rfl, rfl⟩
theorem test_wit_WriterAndHandsetAfterEitherReset :
    (Instr.resetInput restingSense = .resetInput restingSense) ∧
      (withLamp (fun l => { l with primary := .failed })).lamp.primary = .failed ∧
      (State.reset.log.flags = 0) ∧
      persists (withLamp (fun l => { l with primary := .failed })) .primaryFailed = true := by decide

/-! ### Witnesses: the cue engine -/

theorem test_wit_CuesAreTakenOrWait :
    (let s := withEngine (fun e => { e with queue := [cue .reverse] })
     s.engine.queue = [cue .reverse] ∧ (cue .reverse).source ≠ .link ∧ s.engine.runState ≠ .held ∧ s.engine.cue = none ∧
       broadcasts s = false ∧ s.lamp.goingOff = none) ∧
      (withEngine (fun e => { e with runState := .held, queue := [cue .advance] })).engine.runState = .held ∧
      State.reset.engine.queue = [] ∧
      (withEngine (fun e => { e with cue := some (changing .fadingIn true), queue := [cue .advance] })).engine.cue =
        some (changing .fadingIn true) ∧ (changing .fadingIn true).cycle = true := by
  refine ⟨⟨?_, ?_, ?_, ?_, ?_, ?_⟩, ?_, ?_, ?_, ?_⟩ <;> decide
theorem test_wit_LookaheadFindsNumber :
    loaded.engine.queue = [cue (.numbered 11)] ∧ loaded.engine.runState = .running ∧ loaded.engine.cue = none ∧
      1 < lookahead loaded.path.settings ∧
      (∀ i, i < 1 → entryLoaded loaded (loaded.engine.pointer + i) = true ∧
        (rawEntry loaded.path.program.bytes (loaded.engine.pointer + i)).cueNo ≠ 11) ∧
      entryLoaded loaded (loaded.engine.pointer + 1) = true ∧
      (rawEntry loaded.path.program.bytes (loaded.engine.pointer + 1)).cueNo = 11 := by decide
theorem test_wit_LookaheadLogsNumber :
    loaded.log.ring.length < 64 ∧ 2 ≤ lookahead loaded.path.settings ∧
      (∀ i, i < 2 → entryLoaded loaded (loaded.engine.pointer + i) = true ∧
        (rawEntry loaded.path.program.bytes (loaded.engine.pointer + i)).cueNo ≠ 12) ∧
      entryLoaded loaded (loaded.engine.pointer + 2) = false ∧ (12 : Word) ≠ 0xFFFF := by decide
theorem test_wit_ScheduledFadeStarts :
    (let s := withEngine (fun e => { e with runState := .running, cue := some waitingFade })
     s.engine.cue = some waitingFade ∧ waitingFade.phase = .waiting ∧ waitingFade.plan.action = .fade ∧
       waitingFade.plan.entry.isSome = true ∧ s.lamp.goingOff = none) := by refine ⟨?_, ?_, ?_, ?_, ?_⟩ <;> decide
theorem test_wit_EndCueStopsShow :
    (let s := withEngine (fun e => { e with runState := .learning, queue := [cue .endShow] })
     s.engine.queue = [cue .endShow] ∧ s.engine.runState ≠ .held ∧ s.engine.cue = none) := by
  refine ⟨?_, ?_, ?_⟩ <;> decide

/-! ### Witnesses: the slide transport -/

theorem test_wit_TrayStepsAndStalls :
    (let s := cycling 40 stepping id
     s.transport.state = .cycling ∧ s.transport.move = some stepping ∧ stepping.status = .stepping ∧
       stepping.search = false ∧ 2 ≤ stepping.remaining ∧ s.transport.stepCount = some 62 ∧
       trayFree s.transport = true ∧ s.transport.stalls = 0 ∧ trayFree (cycling 120 stepping id).transport = false) ∧
      (let v := { stepping with status := .paused, remaining := 1 }
       let s := cycling 119 v id
       s.transport.state = .cycling ∧ s.transport.move = some v ∧ v.status = .paused ∧ v.search = false ∧
         1 ≤ v.remaining ∧ trayFree s.transport = true) := by
  refine ⟨⟨?_, ?_, ?_, ?_, ?_, ?_, ?_, ?_, ?_⟩, ?_, ?_, ?_, ?_, ?_, ?_⟩ <;> decide
theorem test_wit_IndexEdgeEndsHomingSearch :
    (let v := { stepping with search := true }
     let s := cycling 60 v (fun t => { t with target := 80 })
     s.transport.state = .cycling ∧ s.transport.move = some v ∧ v.search = true ∧ v.status = .stepping ∧
       1 ≤ s.transport.target ∧ s.transport.target ≤ s.transport.size ∧ trayFree s.transport = true) := by
  refine ⟨?_, ?_, ?_, ?_, ?_, ?_, ?_⟩ <;> decide
theorem test_wit_CamCountsAndIndexEdge :
    (cycling 179 stepping id).transport.camRunning = true ∧ (cycling 179 stepping id).transport.camAngle = some 179 ∧
      State.reset.transport.camRunning = false ∧ State.reset.transport.focus = .stopped ∧
      (let s := cycling 179 stepping (fun t => { t with phase := .drop })
       s.transport.camRunning = true ∧ s.transport.phase = .drop ∧ s.transport.gate ≠ .seated ∧ s.transport.target ≠ 0 ∧
         s.transport.focus = .stopped) := by
  refine ⟨?_, ?_, ?_, ?_, ?_, ?_, ?_, ?_, ?_⟩ <;> decide
theorem test_wit_JamsEndTheCycle :
    (let v := { stepping with search := true, searched := 5248 }
     let s := cycling 60 v id
     s.transport.state = .cycling ∧ s.transport.move = some v ∧ v.search = true ∧
       64 * (s.transport.size + 1) + 64 ≤ v.searched ∧ s.transport.camRunning = true) ∧
      (let s := cycling 60 { stepping with remaining := 1 } (fun t => { t with stalls := 1 })
       1 ≤ s.transport.stalls ∧ s.transport.move = some { stepping with remaining := 1 }) ∧
      (let s := cycling 0 stepping (fun t => { t with phase := .seat, gate := .partialSeat, retried := true })
       s.transport.state = .cycling ∧ s.transport.phase = .seat ∧ s.transport.gate = .partialSeat ∧
         s.transport.retried = true) := by
  refine ⟨⟨?_, ?_, ?_, ?_, ?_⟩, ⟨?_, ?_⟩, ?_, ?_, ?_, ?_⟩ <;> decide
/-- Table 2-6's LIFT_CHECK window, 35 to 36, becomes active at the count from 34. -/
theorem test_wit_JamsEndTheCycle_lift :
    (let s := cycling 34 stepping (fun t => { t with gate := .seated })
     let w : CamWindow := { fn := .liftCheck, on := 35, off := 36 }
     s.transport.state = .cycling ∧ s.transport.camRunning = true ∧ s.transport.gate = .seated ∧
       s.transport.phase ≠ .none ∧ s.transport.phase ≠ .camHome ∧ s.transport.camAngle = some 34 ∧
       s.transport.table = some builtInTable ∧ w ∈ builtInTable.windows ∧ w.fn = .liftCheck ∧
       windowActive w 34 = false ∧ windowActive w ((34 + 1) % 180) = true) := by
  refine ⟨?_, ?_, ?_, ?_, ?_, ?_, ?_, ?_, ?_, ?_, ?_⟩ <;> decide
theorem test_wit_SeatCompletesCycle :
    (let s := cycling 0 stepping (fun t => { t with phase := .seat })
     s.transport.state = .cycling ∧ s.transport.phase = .seat ∧ s.transport.sizeChanged = false ∧
       s.transport.gate ≠ .partialSeat) := by refine ⟨?_, ?_, ?_, ?_⟩ <;> decide
theorem test_wit_GateTrayAndFocusEvents :
    (let s := cycling 0 stepping (fun t => { t with phase := .seat, gate := .partialSeat })
     s.transport.state = .cycling ∧ s.transport.phase = .seat ∧ s.transport.gate = .partialSeat ∧
       s.transport.retried = false ∧ s.transport.focus = .stopped) ∧
      ¬ (State.reset.transport.state = .cycling ∧ State.reset.transport.phase = .seat ∧ GateReading.seated = .seated) ∧
      (let s := withTransport (fun t => { t with state := .ready, position := some 0 })
       s.transport.state = .ready ∧ s.transport.position = some 0) ∧
      (withTransport (fun t => { t with state := .noTray })).transport.state = .noTray ∧
      (let s := withTransport (fun t => { t with state := .ready, position := some 80 })
       s.transport.state = .ready ∧ s.transport.position ≠ some 0) ∧
      (withTransport (fun t => { t with focus := .inward })).transport.focus ≠ .stopped := by
  refine ⟨⟨?_, ?_, ?_, ?_, ?_⟩, ?_, ⟨?_, ?_⟩, ?_, ⟨?_, ?_⟩, ?_⟩ <;> decide
theorem test_wit_TrayInsertedMakesUnhomed :
    (withTransport (fun t => { t with state := .noTray })).transport.state = .noTray ∧
      (withPower (fun p => { p with state := .on })).power.state = .on ∧
      State.reset.transport.state ≠ .noTray := by refine ⟨?_, ?_, ?_⟩ <;> decide

/-! ### Witnesses: the lamp controller and the power unit -/

/-- A ramp at its last period, requested by `r`. -/
def lastStep (r : Option Requester) : Ramp := { l0 := 1024, l1 := 0, n := 10, k := 9, active := true, requester := r }

theorem test_wit_DarkPeriodsAndRampEnds :
    (State.reset.lamp.ramp.active = false ∧ State.reset.lamp.state ≠ .lit ∧ State.reset.power.state ≠ .runup) ∧
      (let s := withLamp (fun l => { l with ramp := lastStep none })
       s.lamp.ramp.active = true ∧ s.lamp.ramp.n ≤ s.lamp.ramp.k + 1 ∧ s.lamp.ramp.requester = none) ∧
      (let s := { withLamp (fun l => { l with state := .lit, goingOff := some .power, ramp := lastStep (some .off) }) with
         power := { State.reset.power with state := .shutdown } }
       s.lamp.ramp.active = true ∧ s.lamp.ramp.n ≤ s.lamp.ramp.k + 1 ∧ s.lamp.ramp.requester = some .off ∧
         s.lamp.state = .lit ∧ s.lamp.goingOff.isSome = true ∧ s.power.state ≠ .standby) := by
  refine ⟨⟨?_, ?_, ?_⟩, ⟨?_, ?_, ?_⟩, ?_, ?_, ?_, ?_, ?_, ?_⟩ <;> decide
/-- Ramps with a period to run: rising in the dark, and falling with the lamp LIT in ON. -/
theorem test_wit_DarkPeriodsAndRampEnds_progress :
    (let s := withLamp (fun l => { l with ramp := { l0 := 0, l1 := 1000, n := 3, k := 1, active := true, requester := none } })
     s.lamp.ramp.active = true ∧ s.lamp.ramp.k + 1 < s.lamp.ramp.n ∧ s.lamp.state ≠ .lit ∧ s.power.state ≠ .runup) ∧
      (let s := { withLamp (fun l => { l with
           state := .lit, ramp := { l0 := 1000, l1 := 0, n := 3, k := 1, active := true, requester := none } }) with
         power := { State.reset.power with state := .on } }
       s.lamp.ramp.active = true ∧ s.lamp.ramp.k + 1 < s.lamp.ramp.n ∧ s.lamp.state = .lit ∧ s.power.state = .on) := by
  refine ⟨⟨?_, ?_, ?_, ?_⟩, ?_, ?_, ?_, ?_⟩ <;> decide
/-- The cue `e` at the end of its ramp, in power state `p`, with the transport as `f` gives. -/
def engineRampEnds (e : Executing) (p : PowerState) (f : Transport → Transport) : State :=
  { withLamp (fun l => { l with ramp := lastStep (some .engine) }) with
    engine := { State.reset.engine with runState := .running, cue := some e }
    power := { State.reset.power with state := p }
    transport := f State.reset.transport }
/-- A forward change in FADING_OUT that awaits its ramp. -/
def fadedOut : Executing := { changing .fadingOut false with awaiting := true }
/-- A cue in FADING_IN, its own cycle in flight or not, that awaits its ramp; and one that awaits none. -/
theorem test_wit_DarkPeriodsAndRampEnds_engine :
    (let s := engineRampEnds { changing .fadingIn true with awaiting := true } .on id
     s.lamp.ramp.active = true ∧ s.lamp.ramp.n ≤ s.lamp.ramp.k + 1 ∧ s.lamp.ramp.requester = some .engine ∧
       s.engine.cue = some { changing .fadingIn true with awaiting := true } ∧
       (changing .fadingIn true).stopping = false) ∧
      (engineRampEnds { changing .fadingIn false with awaiting := true } .on id).engine.cue =
        some { changing .fadingIn false with awaiting := true } ∧
      (engineRampEnds (changing .waiting false) .on id).engine.cue = some (changing .waiting false) := by
  refine ⟨⟨?_, ?_, ?_, ?_, ?_⟩, ?_, ?_⟩ <;> decide
/-- A change from slot S = 80 forward to the gap, a homing cycle with the cam at its index and away from it, and the transport that
refuses: JAMMED in ON, READY in STANDBY. -/
theorem test_wit_DarkPeriodsAndRampEnds_change :
    (fadedOut.awaiting = true ∧ fadedOut.phase = .fadingOut ∧ fadedOut.stopping = false ∧
      tableValid (camTableOf defaultSettings) = true ∧ tableActive (camTableOf defaultSettings) .liftCheck 0 = false) ∧
      (let s := engineRampEnds fadedOut .shutdown (fun t => { t with
         state := .ready, position := some 80, stepCount := some (64 * 80), camAngle := some 0 })
       s.power.state = .shutdown ∧ s.transport.state = .ready ∧ s.transport.position = some 80 ∧
         s.transport.stepCount = some (64 * 80) ∧ 80 ≤ traySize s.path.settings) ∧
      (let s := engineRampEnds fadedOut .on (fun t => { t with state := .unhomed, camAngle := some 0 })
       s.transport.state = .unhomed ∧ s.transport.camAngle = some 0) ∧
      (engineRampEnds fadedOut .on (fun t => { t with state := .unhomed, camAngle := none })).transport.camAngle ≠ some 0 ∧
      (engineRampEnds fadedOut .on (fun t => { t with state := .jammed })).transport.state = .jammed ∧
      (let s := engineRampEnds fadedOut .standby (fun t => { t with state := .ready })
       s.transport.state = .ready ∧ s.power.state = .standby) := by
  refine ⟨⟨?_, ?_, ?_, ?_, ?_⟩, ⟨?_, ?_, ?_, ?_, ?_⟩, ⟨?_, ?_⟩, ?_, ?_, ?_, ?_⟩ <;> decide
/-- A LIT lamp in ON, at the nominal supply and the largest current allowed. -/
def driven : State :=
  { withLamp (fun l => { l with state := .lit, level := 1024, duty := 4095 }) with
    power := { State.reset.power with state := .on } }
theorem test_wit_DrivenLampPeriodDuty :
    driven.lamp.ramp.active = false ∧ driven.lamp.state = .lit ∧ driven.power.state = .on ∧ driven.power.band ≠ .hot ∧
      driven.power.fanWatch ≠ .failed ∧ (1000 : Code10).toNat ≤ currentMax driven.path.settings ∧
      (driven.lamp.duty < 256 ∨ currentMin driven.path.settings ≤ (1000 : Code10).toNat) ∧
      nominalSupply driven.path.settings ≤ 2 * (400 : Code10).toNat := by decide
theorem test_wit_FilamentAndFanFailures_filament :
    (let s := { withLamp (fun l => { l with state := .lit, openCount := 2 }) with
       power := { State.reset.power with state := .on }
       path := { State.reset.path with settings := setByte defaultSettings 87 2 } }
     s.lamp.state = .lit ∧ 2 ≤ s.lamp.openCount ∧ s.power.state ≠ .standby ∧
       optAutoSpare s.path.settings = true ∧ socketState s.lamp (otherSocket s.lamp.active) = .good) := by
  refine ⟨?_, ?_, ?_, ?_, ?_⟩ <;> decide
theorem test_wit_CarriageArrivesOrFaults :
    (State.reset.lamp.state = .off) ∧
      (let s := withLamp (fun l => { l with state := .swapping, carriageTimer := some 2000000 })
       s.lamp.state = .swapping ∧ s.lamp.failureSwap = false ∧ s.lamp.goingOff = none) ∧
      (withLamp (fun l => { l with state := .fault })).lamp.state ≠ .swapping := by
  refine ⟨?_, ⟨?_, ?_, ?_⟩, ?_⟩ <;> decide
theorem test_wit_SupplyAndUsageCounts :
    (let s := withLamp (fun l => { l with lowCount := 49 })
     s.lamp.lowCount = 49 ∧ s.log.ring.length < 64) ∧
      (let s := withPower (fun p => { p with handed := 1 })
       0 < s.power.handed ∧ s.lamp.active = .primary) ∧
      (let s := { withLamp (fun l => { l with active := .spare }) with power := { State.reset.power with handed := 4095 } }
       0 < s.power.handed ∧ s.lamp.active = .spare) ∧ State.reset.power.handed = 0 := by
  refine ⟨⟨?_, ?_⟩, ⟨?_, ?_⟩, ⟨?_, ?_⟩, ?_⟩ <;> decide
/-- R81: dark since a knock, the lamp still burns the second of the lamp period last completed. -/
theorem test_usage_tick_after_knock :
    let s := { withPower (fun p => { p with handed := 100 }) with lamp := { State.reset.lamp with state := .swapping } }
    ∃ t, exec .usageTick s = .next t ∧ s.lamp.duty = 0 ∧ t.lamp.usePrimary.seconds = 1 := ⟨_, rfl, by decide, by decide⟩
/-- R112: an audio request of time 0 completes at the next audio period, with k = 1. -/
theorem test_audio_ramp_of_time_zero :
    let d := audioStage { State.reset.deck with ramp := { a0 := 63, a1 := 5, n := 0, k := 0, active := true } }
    d.audio = 5 ∧ d.ramp.k = 1 ∧ d.ramp.active = false := by decide
theorem test_wit_UsageNeverDecreases :
    usageOk { dark := 6000, seconds := 59, minutes := 4294967295, starts := 65535 } ∧
      Instr.usageTick ≠ .transactionEnd ∧ (∀ r, Instr.usageTick ≠ .powerOnReset r) := by
  refine ⟨by unfold usageOk; decide, by decide, by intro r h; cases h⟩
theorem test_wit_PowerKeyByState :
    State.reset.power.state = .standby ∧
      (let s := withPower (fun p => { p with state := .runup })
       s.power.state = .runup ∧ s.power.owed = false) ∧
      (driven.power.state = .on ∧ driven.lamp.state = .lit) ∧
      (let s := withPower (fun p => { p with state := .on })
       s.power.state = .on ∧ s.lamp.state = .off ∧ s.transport.state ≠ .cycling ∧ s.power.owed = false) ∧
      (withPower (fun p => { p with state := .shutdown, owed := true })).power.state = .shutdown := by
  refine ⟨?_, ⟨?_, ?_⟩, ⟨?_, ?_⟩, ⟨?_, ?_, ?_, ?_⟩, ?_⟩ <;> decide
theorem test_wit_RunupAndShutdownEnd :
    (let s := withPower (fun p => { p with state := .runup, runupCount := 9 })
     s.power.state = .runup ∧ 9 ≤ s.power.runupCount ∧ s.power.owed = false) ∧
      (let s := withPower (fun p => { p with state := .shutdown })
       s.power.state = .shutdown ∧ s.lamp.state = .off ∧ s.transport.state ≠ .cycling ∧ s.power.owed = false) ∧
      (withPower (fun p => { p with state := .shutdown, owed := true })).power.owed = true := by
  refine ⟨⟨?_, ?_, ?_⟩, ⟨?_, ?_, ?_, ?_⟩, ?_⟩ <;> decide
theorem test_wit_CoolingPeriodBandAndFan :
    (let s := withPower (fun p => { p with state := .on, fanWatch := .watching, band := .hot })
     s.power.owed = false ∧ s.power.state = .on ∧ s.power.fanWatch ≠ .off ∧
       (213 : Code10).toNat * 250 / 1023 + 3 ≤ gateWarm s.path.settings ∧
       (438 : Code10).toNat * 250 / 1023 + 3 ≤ houseHot s.path.settings ∧ 0 < fanMin s.path.settings ∧
       gateHot s.path.settings ≤ (287 : Code10).toNat * 250 / 1023) ∧
      State.reset.power.band ≠ .hot := by
  refine ⟨⟨?_, ?_, ?_, ?_, ?_, ?_, ?_⟩, ?_⟩ <;> decide
theorem test_wit_FilamentAndFanFailures_fan :
    (withPower (fun p => { p with fanWatch := .spinUp })).power.fanWatch = .spinUp ∧
      (withPower (fun p => { p with fanWatch := .watching })).power.fanWatch = .watching ∧
      (let s := withPower (fun p => { p with fanWatch := .failed, fanDuty := 1 })
       s.power.fanWatch = .failed ∧ 0 < s.power.fanDuty ∧ s.power.recovery = none) ∧
      (withPower (fun p => { p with fanWatch := .failed, recovery := some 1000000 })).power.recovery.isSome = true := by
  refine ⟨?_, ?_, ⟨?_, ?_, ?_⟩, ?_⟩ <;> decide

/-! ### Witnesses: the deck and the cue track -/

theorem test_wit_DeckTimersAct :
    (let s := withDeck (fun d => { d with mode := .braking, pending := some (.mode .rewind) })
     s.deck.mode = .braking ∧ DeckMode.rewind ≠ .braking ∧ s.deck.pending = some (.mode .rewind)) ∧
      (let s := withDeck (fun d => { d with mode := .braking, pending := some .locate, locate := some 0 })
       s.deck.pending = some .locate ∧ s.deck.locate = some 0 ∧ s.deck.counter = 0) ∧
      (withDeck (fun d => { d with mode := .rewind })).deck.mode = .rewind ∧
      (withDeck (fun d => { d with mode := .fastFwd })).deck.mode = .fastFwd ∧
      (withDeck (fun d => { d with mode := .record, tapeTime := some 65535 })).deck.mode = .record ∧
      (withDeck (fun d => { d with ramp := { a0 := 63, a1 := 0, n := 0, k := 0, active := true } })).deck.ramp.active =
        true := by
  refine ⟨⟨?_, ?_, ?_⟩, ⟨?_, ?_, ?_⟩, ?_, ?_, ?_, ?_⟩ <;> decide
theorem test_wit_TapeCounterRule :
    (let s := withDeck (fun d => { d with mode := .fastFwd, counter := 2147483647 })
     s.deck.counter ≤ 2147483647 ∧ -2147483648 ≤ s.deck.counter ∧ s.deck.mode ≠ .stop) ∧
      State.reset.deck.mode = .stop := by refine ⟨⟨?_, ?_, ?_⟩, ?_⟩ <;> decide
theorem test_wit_IntervalClasses :
    0 < 2000 ∧
      (let s := withDecoder (fun d => { d with state := .data, half := some 1499 })
       s.decoder.half = some 1499 ∧ classify s.decoder.cell 1500 ≠ .half ∧ classify s.decoder.cell 500 = .half) := by
  refine ⟨?_, ?_, ?_, ?_⟩ <;> decide
theorem test_wit_CueTrackEventsAct :
    (let s := withDeck (fun d => { d with mode := .play })
     s.deck.mode = .play ∧ s.decoder.ring.length < 256) ∧
      (withDecoder (fun d => { d with ring := List.replicate 256 0 })).decoder.ring.length = 256 ∧ State.reset.deck.mode ≠ .play ∧
      (let s := withDecoder (fun d => { d with state := .hunt, ring := [] ++ [7] })
       s.decoder.state ≠ .off ∧ s.decoder.ring = [] ++ [7]) ∧
      (let s := withDecoder (fun d => { d with state := .data, reference := some (0 - 3500) })
       s.decoder.state = .data ∧ s.decoder.ring = [] ∧ s.decoder.reference = some (0 - 3500) ∧
         7 * s.decoder.cell ≤ 4 * (s.clock.micros - (0 - 3500)).toNat) ∧
      (withDeck (fun d => { d with mode := .record })).deck.mode = .record := by
  refine ⟨⟨?_, ?_⟩, List.length_replicate, ?_, ⟨?_, ?_⟩, ⟨?_, ?_, ?_, ?_⟩, ?_⟩ <;> decide
/-- The deck in RECORD on the third SYNC cell's forerunner: count 1, its middle just due; and a ZERO cell one microsecond earlier. -/
theorem test_wit_CueTrackEventsAct_output :
    (let s := { withDeck (fun d => { d with mode := .record }) with
       clock := { State.reset.clock with now := 999 }
       writer := { State.reset.writer with slots := [(0, .sync), (1, .sync)], syncRun := 1 } }
     assocSorted s.writer.slots = true ∧ s.deck.mode = .record ∧ s.pending = [] ∧ dueCommand s = none ∧
       s.writer.midDone = false ∧ s.writer.cellStart + 1000 ≤ s.clock.now + 1 ∧
       s.clock.now < s.writer.cellStart + 1000 ∧ DeckMode.braking ≠ .record) ∧
      (let s := { withDeck (fun d => { d with mode := .record }) with clock := { State.reset.clock with now := 998 } }
       s.clock.now + 1 < s.writer.cellStart + 1000 ∧ dueCommand s = none) ∧
      State.reset.deck.mode ≠ .record :=
  ⟨⟨by decide, rfl, rfl, rfl, by decide, by decide, by decide, by decide⟩, ⟨by decide, rfl⟩, by decide⟩
theorem test_wit_WrittenFrameIsAccepted :
    1 ≤ 3 ∧ 3 ≤ 6 ∧ 3 < 4 ∧ (4095 : Word).toNat ≤ 4095 ∧ State.reset.decoder.bits = [] ∧
      State.reset.decoder.chars = [] ∧ State.reset.decoder.accepted = none := by decide

/-! ### Witnesses: the line unit -/

/-- A lead in line state `st`. -/
def leadIn (st : LineState) (f : Line → Line) : State := withLine (fun l => f { l with state := st })

theorem test_wit_LineComesUp :
    (leadIn .off id).line.state = .off ∧ (leadIn .retryWait id).line.state = .retryWait ∧
      (leadIn .idle (fun l => { l with quiet := some 0 })).line.quiet.isSome = true ∧
      (State.reset.line.state = .detect ∧ (319 : Code10).toNat < 320 ∧ State.reset.line.detectCount < 3 ∧
        320 ≤ (320 : Code10).toNat) ∧
      (leadIn .detect (fun l => { l with detectCount := 3 })).line.detectCount = 3 ∧
      (let s := leadIn .powering id
       s.line.state = .powering ∧ s.line.queue = [] ∧ followerCount s.path.settings = 0 ∧ s.line.holdOff = false) := by
  refine ⟨?_, ?_, ?_, ⟨?_, ?_, ?_, ?_⟩, ?_, ?_, ?_, ?_, ?_⟩ <;> decide
theorem test_wit_LineFailuresAndReplies_down :
    (leadIn .receiving id).line.state.powered = true ∧ (leadIn .receiving id).line.overcurrents < 2 ∧
      2 ≤ (leadIn .powering (fun l => { l with overcurrents := 2 })).line.overcurrents ∧
      (leadIn .idle (fun l => { l with noAnswer := some 0 })).line.noAnswer.isSome = true := by
  refine ⟨?_, ?_, ?_, ?_⟩ <;> decide
/-- The settings with a follower count of 1. -/
def oneFollower : Bytes := setByte defaultSettings 110 1
theorem test_wit_LeadFramesFollowOn :
    (let s := leadIn .sending (fun l => { l with current := some (.poll 3) })
     s.line.state = .sending ∧ s.line.current = some (.poll 3)) ∧
      (leadIn .awaiting id).line.state = .awaiting ∧
      (let s := leadIn .sending (fun l => { l with current := some .stop, queue := [.stop, .resume] })
       s.line.state = .sending ∧ s.line.holdOff = false ∧ s.line.current = some .stop ∧
         s.line.queue = .stop :: [.resume]) ∧
      (let s := leadIn .sending (fun l => { l with current := some (.sync 0), pollList := [0, 3] })
       s.line.current = some (.sync 0) ∧ s.line.queue = [] ∧ s.line.pollList = 0 :: [3]) := by
  refine ⟨⟨?_, ?_⟩, ?_, ⟨?_, ?_, ?_, ?_⟩, ?_, ?_, ?_⟩ <;> decide
theorem test_wit_LeadFramesFollowOn_broadcast :
    (∀ n, LineMsg.stop ≠ .poll n) ∧ (∀ x, LineMsg.stop ≠ .sync x) :=
  ⟨fun _ h => (by cases h), fun _ h => (by cases h)⟩
/-- A lead with one follower, its sync timer and poll period running. -/
def polling : State :=
  { leadIn .sending (fun l => { l with syncTimer := some 0, pollPeriod := some 0 }) with
    path := { State.reset.path with settings := oneFollower } }
theorem test_wit_LeadFramesFollowOn_timers :
    polling.line.state = .sending ∧ polling.line.syncTimer.isSome = true ∧ polling.line.pollPeriod.isSome = true ∧
      polling.line.pollList = [] ∧ 1 ≤ followerCount polling.path.settings := by
  refine ⟨?_, ?_, ?_, ?_, ?_⟩ <;> decide
theorem test_wit_LineFailuresAndReplies :
    (let s := leadIn .receiving (fun l => { l with current := some (.poll 3), pollList := [3] })
     s.line.state = .receiving ∧ s.line.badFrame = false ∧ s.line.current = some (.poll 3) ∧ s.line.queue = [] ∧
       s.line.syncDue = false ∧ s.line.pollList = [3] ∧
       BitVec.ofNat 8 (32 * 3 + 16) + 1 + 0xFF + 0 + (0x90 : Byte) = 0 ∧
       BitVec.ofNat 8 (32 * 3 + 16) + 1 + 0xFF + 0 + (0x91 : Byte) ≠ 0) ∧
      (let s := leadIn .awaiting (fun l => { l with current := some (.poll 1) })
       s.line.state = .awaiting ∧ s.line.current = some (.poll 1)) ∧
      (let s := leadIn .idle (fun l => { l with holdOff := true, pollList := [1] })
       s.line.state = .idle ∧ s.line.holdOff = true ∧ s.line.queue = [] ∧ s.line.syncDue = false ∧
         s.line.pollList = 1 :: []) := by
  refine ⟨⟨?_, ?_, ?_, ?_, ?_, ?_, ?_, ?_⟩, ⟨?_, ?_⟩, ?_, ?_, ?_, ?_, ?_⟩ <;> decide
/-- A window that closes on silence with another poll waiting, and with none. -/
theorem test_wit_LineFailuresAndReplies_silence :
    (let s := leadIn .awaiting (fun l => { l with current := some (.poll 3), pollList := [3, 0] })
     s.line.state = .awaiting ∧ s.line.current = some (.poll 3) ∧ s.line.queue = [] ∧ s.line.syncDue = false ∧
       s.line.pollList = 3 :: [0]) ∧
      (leadIn .awaiting (fun l => { l with current := some (.poll 1), pollList := [1] })).line.pollList = 1 :: [] := by
  refine ⟨⟨?_, ?_, ?_, ?_, ?_⟩, ?_⟩ <;> decide
theorem test_wit_LeadFramesAreJudgedGood : ∀ n, LineMsg.poll 3 = .poll n → n ≤ 3 := by
  intro n h; cases h; decide

/-- A follower in run state `r`. -/
def follower (r : RunState) (f : Line → Line) : State :=
  { withLine (fun l => f { l with role := .follower, state := .listening }) with
    engine := { State.reset.engine with runState := r } }
theorem test_wit_FollowerTakesGoodFrames :
    (follower .running id).line.state = .listening ∧
      (1 : BitVec 3).toNat = ownAddress (follower .running id).path.settings ∧
      (2 : BitVec 3).toNat ≠ ownAddress (follower .running id).path.settings ∧
      (let s := follower .running (fun l => { l with offset := some 100, syncHeld := true })
       s.line.offset = some 100 ∧ s.line.syncHeld = true ∧ (((150 : Clock32) - 0) - 100).toInt ≤ 50 ∧
         -50 ≤ (((150 : Clock32) - 0) - 100).toInt ∧ s.engine.queue.length < 4 ∧ s.engine.runState ≠ .stopped) ∧
      ((4095 : Word).toNat ≤ 4095 ∧ 4095 < (4096 : Word).toNat) ∧
      (follower .stopped id).engine.runState = .stopped ∧ (follower .stopped id).line.syncHeld = false := by
  refine ⟨?_, ?_, ?_, ⟨?_, ?_, ?_, ?_, ?_, ?_⟩, ⟨?_, ?_⟩, ?_, ?_⟩ <;> decide
/-- A break that began 17 ms ago, at a show clock of 150 with 400 µs of the next millisecond gone: the local time was 133. -/
theorem test_wit_FollowerTakesGoodFrames_sync :
    (133 : Clock32) = 150 - BitVec.ofNat 32 ((17000 + 999 - 400) / 1000) ∧
      (((283 : Clock32) - 133) - 100).toInt ≤ 50 ∧ -50 ≤ (((283 : Clock32) - 133) - 100).toInt := by decide
theorem test_wit_LinkStopAndResumeFrames_fadingIn :
    (changing .fadingIn true).phase = .fadingIn ∧ (changing .fadingIn true).stopping = false ∧
      (changing .fadingIn true).cycle = true ∧ (changing .fadingIn false).cycle = false ∧
      ({ changing .fadingIn true with stopping := true } : Executing).stopping = true := by decide
theorem test_wit_LinkStopAndResumeFrames :
    ((follower .held id).line.state = .listening ∧ (follower .held id).line.role = .follower ∧
      (follower .held id).engine.runState = .held ∧ (follower .held id).deck.mode = .stop ∧
      (follower .stopped id).engine.runState ≠ .held) ∧
      ((changing .waiting false).stopping = false ∧ (changing .waiting false).phase = .waiting ∧
        (changing .fadingOut false).phase = .fadingOut ∧ (changing .changing true).phase = .changing ∧
        (follower .running id).lamp.goingOff = none) := by
  refine ⟨⟨?_, ?_, ?_, ?_, ?_⟩, ?_, ?_, ?_, ?_, ?_⟩ <;> decide
theorem test_wit_SyncTimerLosesSync :
    (follower .running (fun l => { l with syncHeld := true, syncWatch := some 0 })).line.syncWatch.isSome = true ∧
      (follower .running (fun l => { l with syncHeld := true, syncWatch := some 0 })).line.syncHeld = true ∧
      (follower .running id).line.syncHeld = false := by refine ⟨?_, ?_, ?_⟩ <;> decide

/-! ### Witnesses: the handset logic and the memory path -/

theorem test_wit_HandsetTimersAndDigits :
    (withHandset (fun h => { h with entry := [1], entryTimer := some 0 })).handset.entryTimer.isSome = true ∧
      (let s := withHandset (fun h => { h with autoRepeat := .timing })
       s.handset.autoRepeat = .timing ∧ s.transport.state ≠ .ready) ∧
      (let s := { withHandset (fun h => { h with autoRepeat := .timing }) with
         transport := { State.reset.transport with state := .ready } }
       s.handset.autoRepeat = .timing ∧ s.transport.state = .ready ∧ s.engine.queue.length < 4) ∧
      ((19 : Byte).toNat = 10 + 9 ∧ 9 ≤ 9) ∧
      (let s := withHandset (fun h => { h with lastCount := some 15, lastReport := some (0 - 1000), entry := [0, 0, 0] })
       s.handset.lastCount = some 15 ∧ s.handset.lastReport = some (0 - 1000) ∧ s.handset.entry.length ≤ 3 ∧
         replyCount 0x80 ≠ 15 ∧ elapsed s.clock.showClock (0 - 1000) ≤ 1000 ∧ replyCount 0x0F = 15 ∧
         1000 < elapsed s.clock.showClock (0 - 1001)) := by
  refine ⟨?_, ⟨?_, ?_⟩, ⟨?_, ?_, ?_⟩, ⟨?_, ?_⟩, ?_, ?_, ?_, ?_, ?_, ?_, ?_⟩ <;> decide
/-- A lead that receives the handset's reply a second after the last report, whose count was 15, with the entry `e`. -/
def replying (e : List Nat) : State :=
  { leadIn .receiving (fun l => { l with current := some (.poll 0), pollList := [0] }) with
    handset := { State.reset.handset with lastCount := some 15, lastReport := some (0 - 1000), entry := e } }
/-- ADVANCE held with count 1; GO at slot 80 = S, above it, and with no entry; a queue with room and a full one. -/
theorem test_wit_HandsetTimersAndDigits_keys :
    (let s := replying [0, 8, 0]
     s.line.state = .receiving ∧ s.line.badFrame = false ∧ s.line.current = some (.poll 0) ∧
       byteSum [0x10, 0x01, 0x81, 0x6E] = 0 ∧ s.handset.lastCount = some 15 ∧ s.handset.lastReport = some (0 - 1000) ∧
       replyCount 0x81 ≠ 15 ∧ elapsed s.clock.showClock (0 - 1000) ≤ 1000 ∧ replyHeld 0x81 = true ∧
       (keyOf (1 : Byte).toNat).isSome = true ∧ s.engine.queue.length < 4 ∧ s.handset.entry ≠ [] ∧
       entryValue s.handset.entry ≤ traySize s.path.settings) ∧
      traySize (replying [0, 8, 1]).path.settings < entryValue (replying [0, 8, 1]).handset.entry ∧
      (replying []).handset.entry = [] ∧ 4 ≤ (List.replicate 4 (cue .advance)).length := by
  refine ⟨⟨?_, ?_, ?_, ?_, ?_, ?_, ?_, ?_, ?_, ?_, ?_, ?_, ?_⟩, ?_, ?_, ?_⟩ <;> decide
/-- FOCUS_IN held in ON for a new hold, in STANDBY, and with the allowance spent. -/
theorem test_wit_HandsetTimersAndDigits_focus :
    (let s := { replying [] with power := { State.reset.power with state := .on } }
     s.power.state = .on ∧ focusInhibited s.transport = false ∧ s.transport.focusKey ≠ some .forward ∧
       byteSum [0x10, 0x03, 0x8F, 0x5E] = 0 ∧ replyHeld 0x8F = true ∧ replyCount 0x8F = 15 ∧ (3 : Byte).toNat = 3) ∧
      (replying []).power.state ≠ .on ∧
      (let s := withTransport (fun t => { t with focusKey := some .forward, focusAllowance := { left := 0, due := none } })
       s.transport.focusKey = some .forward ∧ s.transport.focusAllowance = { left := 0, due := none }) := by
  refine ⟨⟨?_, ?_, ?_, ?_, ?_, ?_, ?_⟩, ?_, ?_, ?_⟩ <;> decide

/-- A transaction of kind `k` at `addr`. -/
def txnAt (k : TxnKind) (addr : Word) : Txn :=
  { kind := k, addr := addr, headerTouched := false, wasComplete := false, settingsSeen := [], live := [], absorbed := [],
    logRead := [] }
/-- MAPPED, with the transaction `x` in progress. -/
def during (x : Txn) (f : Path → Path) : State :=
  withPath (fun p => f { p with
    map := .mapped { count := 3, program := 0x100, settings := 0x40, live := 0xC0 }, txn := some x, legOpen := true })
theorem test_wit_LinkCommandsOpenTransactions :
    (during (txnAt .passing 0) id).path.txn = some (txnAt .passing 0) ∧ (txnAt .passing 0).kind = .passing ∧
      State.reset.path.txn = none := by refine ⟨?_, ?_, ?_⟩ <;> decide
theorem test_wit_LinkCommandsOpenTransactions_foreign : recognisedCommand 0x9F = false := by decide
theorem test_wit_LinkCommandsOpenTransactions_short : ∃ hi, AddrPhase.high 0xFE = .high hi := ⟨_, rfl⟩
theorem test_wit_ReadBytesByClass :
    addrClass (during (txnAt .passing 0) id).path.map 0xFF80 = .status 0 ∧
      addrClass (during (txnAt .passing 0) id).path.map 0xFDFF = .pass ∧
      addrClass (during (txnAt .passing 0) id).path.map 0xFFFF = .spareWindow ∧
      (addrClass (during (txnAt .passing 0) id).path.map 0xFE00).isWindow = true ∧
      (txnAt (.read (snapshot State.reset)) 0xFF80).kind = .read (snapshot State.reset) := by
  refine ⟨?_, ?_, ?_, ?_, rfl⟩ <;> decide
/-- The last byte of each MIRROR range, of the live region, of the control record and of the log view, under one map; and the records'
boundaries in a snapshot with the lamp usage alone LOADED. -/
theorem test_wit_ReadBytesByClass_rest :
    (let s := during (txnAt (.read (snapshot State.reset)) 0) id
     addrClass s.path.map 11 = .header 11 ∧ addrClass s.path.map 0x12F = .program 47 ∧
       addrClass s.path.map 0xBF = .settings 127 ∧ addrClass s.path.map 0xD7 = .live 23 ∧
       addrClass s.path.map 0xFFA7 = .control 7 ∧ addrClass s.path.map 0xFF7F = .logView 383 ∧
       captureWf s.path.header = true ∧ captureWf s.path.program = true ∧ captureWf s.path.mirror = true) ∧
      (let p := snapshot (withPath (fun p => { p with usageLoaded := true }))
       p.showLoaded = false ∧ p.usageLoaded = true ∧ p.tapeLoaded = false) := by
  refine ⟨⟨?_, ?_, ?_, ?_, ?_, ?_, ?_, ?_, ?_⟩, ?_, ?_, ?_⟩ <;> decide
theorem test_wit_WriteBytesDeclinedOrCaptured :
    (let s := during (txnAt (.write true) 0xFE00) id
     s.path.txn = some (txnAt (.write true) 0xFE00) ∧ s.path.legOpen = true ∧
       declines s (addrClass s.path.map (txnAt (.write true) 0xFE00).addr.toNat) = true) ∧
      (during (txnAt (.write true) 0) (fun p => { p with legOpen := false })).path.legOpen = false ∧
      (let s := during (txnAt (.write true) 0x12F) id
       s.path.legOpen = true ∧ addrClass s.path.map (txnAt (.write true) 0x12F).addr.toNat = .program 47 ∧
         armed s (47 / 16) = false ∧ captureWf s.path.program = true) := by
  refine ⟨⟨?_, ?_, ?_⟩, ?_, ?_, ?_, ?_, ?_⟩ <;> decide
theorem test_wit_UnlatchedWritePassesUnnoticed :
    (during (txnAt (.write false) 0xFFC0) id).path.txn = some (txnAt (.write false) 0xFFC0) ∧
      (txnAt (.write false) 0xFFC0).kind = .write false := by refine ⟨?_, ?_⟩ <;> decide

/-- A log of one entry, sequence 0. -/
def oneEntry : ShowLog := (postGate .power .cooling noCue 1 1 State.reset).log
/-- A READ of the oldest entry's 16 bytes. -/
def logReader : Txn :=
  { txnAt (.read (snapshot { State.reset with log := oneEntry })) 0xFE10 with
    wasComplete := settingsComplete State.reset, logRead := (List.range 16).map (fun i => (i, ())) }
theorem test_wit_ReadConsumesLogEntries :
    LogSequential { State.reset with log := oneEntry } ∧
      (snapshot { State.reset with log := oneEntry }).log = oneEntry.ring.take 24 ∧
      1 ≤ (snapshot { State.reset with log := oneEntry }).log.length ∧
      (∀ o, assocHas logReader.logRead o = true ↔ o < 16 * 1) ∧
      logReader.wasComplete = settingsComplete State.reset ∧
      lineRole State.reset.path.settings = State.reset.line.role := by
  refine ⟨⟨by decide, by decide⟩, by decide, by decide, ?_, by decide, by decide⟩
  intro o
  have marks : logReader.logRead = [(0, ()), (1, ()), (2, ()), (3, ()), (4, ()), (5, ()), (6, ()), (7, ()), (8, ()), (9, ()),
    (10, ()), (11, ()), (12, ()), (13, ()), (14, ()), (15, ())] := by decide
  rw [marks]
  rcases Nat.lt_or_ge o 16 with h | h
  · interval_cases o <;> decide
  · have rest : ∀ i, i < 16 → i ≠ o := by omega
    simp [assocHas, assocGet, rest, h]
theorem test_wit_AcknowledgeClearsFlags :
    (let x := { txnAt (.write true) 0xFF9C with
       wasComplete := settingsComplete State.reset, absorbed := [(0xFF9A, 0xFF), (0xFF9B, 0xFF)] }
     x.kind = .write true ∧ x.headerTouched = false ∧ x.settingsSeen = [] ∧ x.live = [] ∧
       x.absorbed = [(0xFF9A, 0xFF), (0xFF9B, 0xFF)] ∧ x.wasComplete = settingsComplete State.reset) ∧
      lineRole State.reset.path.settings = State.reset.line.role := by
  refine ⟨⟨?_, ?_, ?_, ?_, ?_, ?_⟩, ?_⟩ <;> decide

/-- A store of a header with signature, version 1, count 1 and the ranges of a fresh show, captured whole. -/
def headerStore : Capture :=
  { bytes := [(0, 0x4A), (1, 0x4B), (2, 1), (4, 1), (6, 0x0C), (9, 0x10), (11, 0x20)]
    marks := (List.range 12).map (fun i => (i, ())) }
/-- A WRITE of the header at its end, in STOPPED. -/
def headerWriter : Txn :=
  { txnAt (.write true) 0x0C with headerTouched := true, wasComplete := settingsComplete State.reset }
theorem test_wit_TransactionEndActsOnMapSettingsAndRecords_header :
    (let s := withPath (fun p => { p with header := headerStore, txn := some headerWriter })
     s.path.txn = some headerWriter ∧ headerWriter.kind = .write true ∧ headerWriter.headerTouched = true ∧
       headerWriter.settingsSeen = [] ∧ headerWriter.live = [] ∧ headerWriter.absorbed = [] ∧ headerWriter.logRead = [] ∧
       headerWriter.wasComplete = settingsComplete s ∧ lineRole s.path.settings = s.line.role ∧
       capturedAll s.path.header 0 12 = true ∧ headerFailure s.path.header.bytes = none ∧
       s.path.map ≠ .mapped (headerMap s.path.header.bytes) ∧ s.path.map ≠ .mapFault) := by
  refine ⟨?_, ?_, ?_, ?_, ?_, ?_, ?_, ?_, ?_, ?_, ?_, ?_, ?_⟩ <;> decide
/-- R185's codes at the edges: a wrong signature, version 2, a count of 513, a live range that ends at 0xFE00, one that starts on the
settings' last byte, and one that starts behind it. -/
theorem test_wit_TransactionEndActsOnMapSettingsAndRecords_codes :
    headerFailure [(0, 0x4A), (1, 0x4A)] = some 1 ∧ headerFailure [(0, 0x4A), (1, 0x4B), (2, 2)] = some 2 ∧
      headerFailure [(0, 0x4A), (1, 0x4B), (2, 1), (4, 1), (5, 2)] = some 3 ∧
      headerFailure [(0, 0x4A), (1, 0x4B), (2, 1), (8, 0x0C), (10, 0xE9), (11, 0xFD)] = some 4 ∧
      headerFailure [(0, 0x4A), (1, 0x4B), (2, 1), (8, 0x0C), (10, 0xE8), (11, 0xFD)] = none ∧
      headerFailure [(0, 0x4A), (1, 0x4B), (2, 1), (8, 0x0C), (10, 0x8B)] = some 5 ∧
      headerFailure [(0, 0x4A), (1, 0x4B), (2, 1), (8, 0x0C), (10, 0x8C)] = none := by decide
theorem test_wit_TransactionEndActsOnMapSettingsAndRecords_settings :
    (let x := { txnAt (.write true) 0x40 with settingsSeen := [(0, ())], wasComplete := true }
     x.headerTouched = false ∧ x.live = [] ∧ x.absorbed = [] ∧ x.logRead = [] ∧ x.wasComplete = true) ∧
      Memory.wf defaultSettings = true ∧ (txnAt (.write true) 0x40).wasComplete = false ∧
      captured State.reset.path.mirror 127 = false ∧
      (let m : Capture := { bytes := [], marks := (List.range 128).map (fun i => (i, ())) }
       capturedAll m 0 128 = true) := by
  refine ⟨⟨?_, ?_, ?_, ?_, ?_⟩, ?_, ?_, ?_, ?_⟩ <;> decide
/-- The eight bytes of a show position that carries pointer 2 and run state 1. -/
def positionBytes : Assoc Byte := [(0, 2), (1, 0), (2, 0), (3, 1), (4, 0), (5, 0), (6, 0), (7, 0)]
theorem test_wit_TransactionEndActsOnMapSettingsAndRecords_position : ∀ o, assocHas positionBytes o = true ↔ o < 8 := by
  intro o
  rcases Nat.lt_or_ge o 8 with h | h
  · interval_cases o <;> decide
  · have rest : ∀ i, i < 8 → i ≠ o := by omega
    simp [positionBytes, assocHas, assocGet, rest, h]
/-- The twelve bytes of a lamp usage record. -/
def usageBytes : Assoc Byte :=
  [(8, 60), (9, 0), (10, 0), (11, 0), (12, 1), (13, 0), (14, 0), (15, 0), (16, 7), (17, 0), (18, 8), (19, 0)]
theorem test_wit_TransactionEndActsOnMapSettingsAndRecords_usage : ∀ o, assocHas usageBytes o = true ↔ 8 ≤ o ∧ o < 20 := by
  intro o
  rcases Nat.lt_or_ge o 20 with h | h
  · interval_cases o <;> decide
  · have rest : ∀ i, i < 20 → i ≠ o := by omega
    simp [usageBytes, assocHas, assocGet, rest, h]
theorem test_wit_TransactionEndActsOnMapSettingsAndRecords_partial :
    (∀ o, assocHas ([(20, 5), (23, 0)] : Assoc Byte) o = true → 20 ≤ o ∧ o < 24) ∧
      assocHas ([(20, 5), (23, 0)] : Assoc Byte) 20 = true ∧ assocHas ([(20, 5), (23, 0)] : Assoc Byte) 21 = false := by
  refine ⟨?_, by decide, by decide⟩
  intro o h
  by_cases h1 : 20 = o
  · omega
  · by_cases h2 : 23 = o
    · omega
    · simp [assocHas, assocGet, h1, h2] at h

/-- A control record: WRITE_CUE of CUE 37 at offset `c`. -/
def writeCue (c : Byte) : Nat → Byte
  | 0 => 13 | 1 => 3 | 2 => 37 | 4 => c | _ => 0
/-- The WRITE that carries the control record `q`, at its end. -/
def requestWriter (q : Nat → Byte) : Txn :=
  { txnAt (.write true) 0xFFA8 with
    wasComplete := settingsComplete State.reset, absorbed := (List.range 8).map (fun o => (0xFFA0 + o, q o)) }
theorem test_wit_ControlRequestsAreDecided :
    (∀ o, o < 8 → assocGet (requestWriter (writeCue 8)).absorbed (0xFFA0 + o) = some (writeCue 8 o)) ∧
      assocHas (requestWriter (writeCue 8)).absorbed 0xFF9A = false ∧
      (requestWriter (writeCue 8)).wasComplete = settingsComplete State.reset ∧
      lineRole State.reset.path.settings = State.reset.line.role ∧ (withDeck (fun d => { d with mode := .record })).deck.mode = .record := by
  refine ⟨?_, ?_, ?_, ?_, ?_⟩ <;> decide
/-- A control record of request `code` with argument A = `a`. -/
def requestOfCode (code a : Byte) : Nat → Byte
  | 0 => code | 1 => a | _ => 0
theorem test_wit_ControlRequestsAreDecided_codes :
    ∀ c ∈ [9, 10, 11, 12, 14, 15, 16, 17], ∀ o, o < 8 →
      assocGet (requestWriter (requestOfCode c 1)).absorbed (0xFFA0 + o) = some (requestOfCode c 1 o) := by decide
/-- LAMP_ON: refused in STANDBY; a LIT lamp; no GOOD socket; PRIMARY at its stop, both switches open, and SPARE GOOD alone. -/
theorem test_wit_ControlRequestsAreDecided_lampOn :
    State.reset.power.state ≠ .on ∧ (driven.power.state = .on ∧ driven.lamp.state = .lit) ∧
      (let s := withLamp (fun l => { l with primary := .failed, spare := .failed })
       s.lamp.state = .off ∧ s.lamp.primary = .failed ∧ s.lamp.spare = .failed) ∧
      (let l := { State.reset.lamp with endPrimary := true, endSpare := false, active := .primary }
       socketState l .primary = .good ∧ l.endPrimary ≠ l.endSpare ∧ carriagePosition l = stopOf .primary) ∧
      (let l := { State.reset.lamp with endPrimary := false, endSpare := false, primary := .failed }
       socketState l .spare = .good ∧ l.endPrimary = l.endSpare ∧ l.primary = .failed ∧
         carriagePosition l ≠ stopOf .spare) := by
  refine ⟨?_, ⟨?_, ?_⟩, ⟨?_, ?_, ?_⟩, ⟨?_, ?_, ?_⟩, ?_, ?_, ?_, ?_⟩ <;> decide
/-- LAMP_OFF takes over the ramp of a cue in FADING_IN, and meets a LIT lamp with no cue; LAMP_REPLACED in FAULT; a DECK request
from STOP. -/
theorem test_wit_ControlRequestsAreDecided_lampOff :
    (let s := { engineRampEnds { changing .fadingIn false with awaiting := true } .on id with
       lamp := { State.reset.lamp with state := .lit, ramp := lastStep (some .engine) } }
     s.lamp.state = .lit ∧ s.lamp.ramp.active = true ∧ s.lamp.ramp.requester = some .engine ∧
       s.engine.cue = some { changing .fadingIn false with awaiting := true }) ∧
      driven.engine.cue = none ∧ (withLamp (fun l => { l with state := .fault })).lamp.state = .fault ∧
      (requestOfCode 11 1 1).toNat ≤ 1 ∧ State.reset.deck.mode = .stop := by
  refine ⟨⟨?_, ?_, ?_, ?_⟩, ?_, ?_, ?_, ?_⟩ <;> decide
/-- CLEAR_JAM, POWER_ON, POWER_OFF and LINE_RESET: a state for each case. -/
theorem test_wit_ControlRequestsAreDecided_rest :
    ((withTransport (fun t => { t with state := .jammed })).transport.state = .jammed ∧
      State.reset.transport.state ≠ .jammed ∧ State.reset.power.state = .standby) ∧
      (let s := withPower (fun p => { p with state := .runup })
       s.power.state = .runup ∧ s.power.owed = false) ∧
      (withPower (fun p => { p with state := .shutdown, owed := true })).power.state = .shutdown ∧
      (let s := withPower (fun p => { p with state := .on })
       s.power.state = .on ∧ s.lamp.state = .off ∧ s.transport.state ≠ .cycling ∧ s.power.owed = false) ∧
      (leadIn .lineFault id).line.state = .lineFault ∧
      (let s := leadIn .powering id
       s.line.role = .lead ∧ s.line.state ≠ .lineFault ∧ s.line.state.powered = true) ∧
      (follower .running id).line.role = .follower := by
  refine ⟨⟨?_, ?_, ?_⟩, ⟨?_, ?_⟩, ?_, ⟨?_, ?_, ?_, ?_⟩, ?_, ⟨?_, ?_, ?_⟩, ?_⟩ <;> decide
/-- Offsets 8 and 146 take a CUE frame's 102 cells, 7 and 147 do not; the window behind a frame at its first free offset has room
for one more. -/
theorem test_wit_ControlRequestsAreDecided_offsets :
    frameLength 3 = 102 ∧ 146 + frameLength 3 ≤ 248 ∧ 248 < 147 + frameLength 3 ∧
      freeRun resetWriter 8 102 = true ∧ freeRun resetWriter 146 102 = true ∧
      freeRun { resetWriter with slots := [(109, .one)] } 8 102 = false ∧
      freeRun { resetWriter with slots := [(110, .one)] } 8 102 = true := by decide
/-- R139: without a deck in RECORD the result is REFUSED_STATE, and 13 and 2 read back. -/
theorem test_control_not_recording :
    (match exec .transactionEnd (withPath (fun p => { p with txn := some (requestWriter (writeCue 8)) })) with
     | .next t => (t.path.reqCode, t.path.reqResult)
     | _ => (0, 0)) = (13, 2) := by decide
/-- R186: the header adopted, with the pointer and the log as they then stand. -/
theorem test_adopt_map :
    (match exec .transactionEnd (withPath (fun p => { p with header := headerStore, txn := some headerWriter })) with
     | .next t => (t.path.map, t.log.ring.map (fun e => (e.kind.code, e.detail1, e.detail2)))
     | _ => (.unmapped, [])) =
      (.mapped { count := 1, program := 0x0C, settings := 0x1000, live := 0x2000 }, [(27, 1, 1)]) := by decide
theorem test_wit_FlagsAndLogEntriesStay :
    exec .usageTick { State.reset with log := { State.reset.log with flags := 0x8001 } } =
        .next ({ State.reset with
          clock := { State.reset.clock with usageTick := some 1000000 }
          log := { State.reset.log with flags := 0x8001 } }) ∧
      Instr.usageTick ≠ .transactionEnd ∧ (∀ r, Instr.usageTick ≠ .powerOnReset r) ∧
      (∀ r, Instr.usageTick ≠ .resetInput r) ∧ State.reset.log.ring.length ≤ 64 ∧ BuffersBounded State.reset :=
  ⟨rfl, by decide, fun _ h => (by cases h), fun _ h => (by cases h), by decide, by constructor <;> decide⟩
/-- A log of 64 entries, full. -/
def fullLog : ShowLog :=
  { State.reset.log with
    next := 64
    ring := (List.range 64).map (fun i =>
      { sequence := BitVec.ofNat 16 i, kind := .power, source := .cooling, time := 0, cueNo := noCue, slot := 0xFF,
        detail1 := 1, detail2 := 1 }) }
/-- A power key that posts to the full log: one entry more, the oldest gone. -/
theorem test_wit_FlagsAndLogEntriesStay_full :
    (∃ t, exec .powerKey { State.reset with log := fullLog } = .next t ∧ t.log.next = 65 ∧ t.log.ring.length = 64) ∧
      fullLog.ring.length ≤ 64 ∧ BuffersBounded { State.reset with log := fullLog } ∧
      (∀ r, Instr.powerKey ≠ .powerOnReset r) ∧ (∀ r, Instr.powerKey ≠ .resetInput r) :=
  ⟨⟨_, rfl, by decide, by decide⟩, by decide, by constructor <;> decide, fun _ h => (by cases h), fun _ h => (by cases h)⟩
theorem test_wit_TransactionsActOnlyAtEnd :
    (∃ a, Instr.read (.full 0xFE00) = .read a) ∧
      (∃ t, exec .powerKey State.reset = .next t) ∧ (∀ a, Instr.powerKey ≠ .read a) ∧
      (∀ m, Instr.powerKey ≠ .readDataByte m) ∧ Instr.powerKey ≠ .transactionEnd :=
  ⟨⟨_, rfl⟩, ⟨_, rfl⟩, fun _ h => (by cases h), fun _ h => (by cases h), by decide⟩

/-! ### Witnesses: the invariants, at a state in the middle of a change -/

/-- RUNNING in ON, the lamp driven, a plain change of its own cue in LIFT with a step owed, a frame placed, one log entry, a map
adopted; the encoder's next count waits. -/
def midChange : State :=
  { cycling 40 stepping (fun t => { t with
      camTimer := { left := 0, due := some 1500000 }, stepTimer := some 2500 }) with
    pending := [.camEncoderCount]
    engine := { State.reset.engine with runState := .running, pointer := 3, cue := some (changing .changing true) }
    lamp := driven.lamp, power := driven.power, log := oneEntry
    writer := { State.reset.writer with slots := [(8, .one), (247, .sync)] }
    path := (during (txnAt .passing 0) id).path }

theorem test_wit_step_midChange : ∃ t, step midChange = .next t := ⟨_, rfl⟩
theorem test_wit_StepKeepsDriveSafe : DriveSafe midChange := by
  constructor <;> decide
theorem test_wit_StepKeepsTransportSettled : TransportSettled midChange := by
  refine ⟨?_, ?_, ?_, ?_, ?_, ?_⟩
  case refine_5 => intro h; exact absurd h (by decide)
  all_goals decide
theorem test_wit_StepKeepsCycleOwned : CycleOwned midChange := by
  have h : midChange.engine.cue = some (changing .changing true) := rfl
  refine ⟨⟨fun _ => ⟨_, h, rfl⟩, fun _ => rfl⟩, ?_, ?_, ?_⟩ <;>
    · intro e he
      rw [h] at he
      cases he
      decide
theorem test_wit_StepKeepsMapSound : MapSound midChange := by
  have h : midChange.path.map = .mapped { count := 3, program := 0x100, settings := 0x40, live := 0xC0 } := rfl
  refine ⟨?_, ?_, ?_, by decide⟩ <;>
    · intro m hm
      rw [h] at hm
      cases hm
      decide
theorem test_wit_StepKeepsStoresAndQueues :
    StoresCanonical midChange ∧ WriterClear midChange ∧ BuffersBounded midChange := by
  refine ⟨⟨by decide, by decide, by decide, by decide, by decide, ?_⟩, ⟨by decide, by decide, ?_⟩, ?_⟩
  · intro t ht
    have h : midChange.path.txn = some (txnAt .passing 0) := rfl
    rw [h] at ht
    cases ht
    decide
  · show ∀ c ∈ [(8, Symbol.one), (247, Symbol.sync)], c.1 < 256 ∧ (c.1 + 256 - 0) % 256 < 248
    decide
  · constructor <;> decide
theorem test_wit_StepKeepsLogSequential : LogSequential midChange := ⟨by decide, by decide⟩
theorem test_wit_StepKeepsLevelsAndCounters :
    LevelsBounded midChange ∧ CountersBounded midChange ∧ CellBounded midChange := by
  refine ⟨by constructor <;> decide, ?_, by constructor <;> decide⟩
  constructor
  case primary => unfold usageOk; decide
  case spare => unfold usageOk; decide
  case tapeTime => intro t ht; cases ht
  all_goals decide
theorem test_wit_StepKeepsRoleAgrees : RoleAgrees midChange := ⟨by decide, by decide⟩
theorem test_wit_StepKeepsFlagsTracking :
    FlagsTrack { midChange with
      lamp := { midChange.lamp with primary := .failed }, log := { midChange.log with flags := 0x0020 } } := by
  unfold FlagsTrack; decide
theorem test_wit_StepKeepsWaitsTimed :
    TransportTimed midChange ∧ PowerTimed midChange ∧ DeckTimed midChange ∧ LineTimed midChange := by
  have h : midChange.transport.move = some stepping := rfl
  refine ⟨⟨by decide, by decide, ?_, ?_, by decide⟩, by constructor <;> decide, by constructor <;> decide,
    by constructor <;> decide⟩
  · intro v hv; rw [h] at hv; cases hv; decide
  · intro v hv _; rw [h] at hv; cases hv; decide

end Sys2Proof.Machine.Tests
end

