-- ==== Sys2Proof/Proofs/SlideTransport.lean ====
section
/-! PROOFS. The slide transport: the tray sensor's report of a tray, and the change request that follows it (R48, R53). -/

namespace Sys2Proof.Machine

/-! ### The tray sensor and the change request -/

/-- TRAY_INSERTED's meaning. -/
theorem exec_trayInserted : ∀ s : State, exec .trayInserted s = execTrayInserted s := by intros; rfl

theorem execTrayInserted_of_noTray {s : State} (h : s.transport.state = .noTray) :
    execTrayInserted s = .next { s with transport := { s.transport with state := .unhomed } } :=
  congrArg Host.Outcome.next (if_pos h)

theorem execTrayInserted_of_ne_noTray {s : State} (h : s.transport.state ≠ .noTray) : execTrayInserted s = .next s :=
  congrArg Host.Outcome.next (if_neg h)

/-- Table 2-3's only way to a homing cycle: an UNHOMED transport with mains on for it (R48). -/
theorem changeAnswer_eq_homing_iff (s : State) :
    changeAnswer s = .homing ↔ s.transport.state = .unhomed ∧ (s.power.state = .on ∨ s.power.state = .shutdown) := by
  unfold changeAnswer
  cases s.transport.state with
  | cycling | jammed | noTray => simp
  | ready | unhomed =>
    by_cases hMains : s.power.state = .on ∨ s.power.state = .shutdown <;> simp [hMains]

/-- Settles O17, from the two branches of TRAY_INSERTED and Table 2-3's row for UNHOMED. -/
theorem trayInsertedMakesUnhomed : Obligations.TrayInsertedMakesUnhomed := by
  intro s
  constructor
  case left =>
    intro hNoTray
    constructor
    · rw [exec_trayInserted, execTrayInserted_of_noTray hNoTray]
    · intro hMains
      exact (changeAnswer_eq_homing_iff _).mpr ⟨rfl, hMains⟩
  case right =>
    intro hTray
    rw [exec_trayInserted, execTrayInserted_of_ne_noTray hTray]

end Sys2Proof.Machine
end

