-- ==== Sys2Proof/Proofs/TapeDeck.lean ====
section
/-! PROOFS. The deck's tape counter (R107), and the decoder's interval classes with the lone HALF (R117, R121). -/

namespace Sys2Proof.Machine

/-! ### What leaves the tape counter as it is, and what sets it -/

@[simp] theorem setDeckMode_counter (m : DeckMode) (s : State) : (setDeckMode m s).deck.counter = s.deck.counter := by
  unfold setDeckMode
  split <;> rfl

@[simp] theorem startBraking_counter (p : PendingMode) (s : State) :
    (startBraking p s).deck.counter = s.deck.counter := by
  simp [startBraking]

/-- The counter takes the value given, whether or not a locate is reached with it (R107, R109). -/
@[simp] theorem setCounter_counter (v : Int) (s : State) : (setCounter v s).deck.counter = v := by
  unfold setCounter
  dsimp only
  split
  · rw [startBraking_counter]
  · rfl

/-! ### The reel pulse -/

/-- REEL_PULSE's meaning. -/
theorem exec_reelPulse : ∀ s : State, exec .reelPulse s = execReelPulse s := by intros; rfl

theorem execReelPulse_of_stop {s : State} (h : s.deck.mode = .stop) : execReelPulse s = .next s :=
  congrArg Host.Outcome.next (if_pos h)

theorem execReelPulse_counter_of_ne_stop {s : State} (h : s.deck.mode ≠ .stop) :
    ∃ t, execReelPulse s = .next t ∧ t.deck.counter = clampCounter (s.deck.counter + pulseStep s.deck) :=
  ⟨_, congrArg Host.Outcome.next (if_neg h), setCounter_counter _ _⟩

/-- Counting up from within the range can only meet its upper end. -/
theorem clampCounter_add_one {c : Int} (h : -2147483648 ≤ c) : clampCounter (c + 1) = min 2147483647 (c + 1) := by
  unfold clampCounter
  omega

/-- Counting down from within the range can only meet its lower end. -/
theorem clampCounter_add_neg_one {c : Int} (h : c ≤ 2147483647) :
    clampCounter (c + -1) = max (-2147483648) (c - 1) := by
  unfold clampCounter
  omega

/-! ### The counter in the status record, and over the resets -/

/-- Eighteen bytes stand before the counter in the status record (Table 11-6). -/
theorem statusBytes_counter (s : State) :
    ((statusBytes s).drop 18).take 4 = clockBytes (BitVec.ofInt 32 s.deck.counter) := rfl

/-- POWER_ON_RESET's meaning. -/
theorem exec_powerOnReset : ∀ (r : ResetSense) (s : State), exec (.powerOnReset r) s = execPowerOnReset r s := by
  intros; rfl

/-- RESET_INPUT's meaning. -/
theorem exec_resetInput : ∀ (r : ResetSense) (s : State), exec (.resetInput r) s = execResetInput r s := by
  intros; rfl

/-- What follows the blocks' reset at a reset input, cooldown and the test of R91, reaches neither the deck nor the memory
path (R99, R102). -/
theorem execResetInput_deck_path (r : ResetSense) (s : State) :
    ∃ t, execResetInput r s = .next t ∧ t.deck = (blocksAfterInput r s).deck ∧ t.path = (blocksAfterInput r s).path := by
  refine ⟨_, rfl, ?_⟩
  unfold flagsAfter
  dsimp only
  split <;> simp

/-- Settles O28: the pulse by the deck's mode, and the counter followed through each operation that sets or keeps it. -/
theorem tapeCounterRule : Obligations.TapeCounterRule := by
  refine ⟨?pulse, ?record, statusBytes_counter, ?powerOn, ?resetInput⟩
  case pulse =>
    intro s hLo hHi
    rw [exec_reelPulse]
    by_cases hStop : s.deck.mode = .stop
    · exact ⟨s, execReelPulse_of_stop hStop, by rw [hStop], fun _ => rfl⟩
    · obtain ⟨t, hNext, hCounter⟩ := execReelPulse_counter_of_ne_stop hStop
      refine ⟨t, hNext, ?_, fun h => absurd h hStop⟩
      have up := clampCounter_add_one hLo
      have down := clampCounter_add_neg_one hHi
      rw [hCounter]
      cases hMode : s.deck.mode with
      | stop => exact absurd hMode hStop
      | play | record | fastFwd => simpa only [pulseStep, hMode] using up
      | rewind => simpa only [pulseStep, hMode] using down
      | braking =>
        cases hForward : s.deck.brakeForward with
        | true => simpa [pulseStep, hMode, hForward] using up
        | false => simpa [pulseStep, hMode, hForward] using down
  case record =>
    intro m s
    exact ⟨setCounter_counter _ s, setCounter_counter _ s⟩
  case powerOn =>
    intro r s
    exact ⟨_, exec_powerOnReset r s, rfl, rfl⟩
  case resetInput =>
    intro r s
    obtain ⟨t, hNext, hDeck, hPath⟩ := execResetInput_deck_path r s
    exact ⟨t, (exec_resetInput r s).trans hNext, by rw [hDeck]; rfl, by rw [hPath]; rfl⟩

/-! ### Interval classes -/

/-- Table 5-3: the five bands of 4I, in the order of the comparisons (R117). -/
theorem classify_cases (c i : Nat) :
    (classify c i = .bad ∧ 4 * i < c) ∨ (classify c i = .half ∧ c ≤ 4 * i ∧ 4 * i < 3 * c) ∨
      (classify c i = .full ∧ 3 * c ≤ 4 * i ∧ 4 * i < 5 * c) ∨ (classify c i = .sync ∧ 5 * c ≤ 4 * i ∧ 4 * i < 7 * c) ∨
      (classify c i = .bad ∧ 7 * c ≤ 4 * i) := by
  unfold classify
  (repeat' split) <;> simp <;> omega

/-! ### A HALF that is held, and the interval after it -/

/-- A frame error counts and hunts, with no HALF held (R124). -/
theorem frameError_spec (d : Decoder) :
    (frameError d).state = .hunt ∧ (frameError d).half = none ∧ (frameError d).errors = min 255 (d.errors + 1) :=
  ⟨rfl, rfl, rfl⟩

/-- The second HALF of a pair completes a ONE, measured over both (R121). -/
theorem dataTake_of_pair {i h : Nat} {s : State} (t : Clock32) (hHalf : s.decoder.half = some h)
    (hClass : classify s.decoder.cell i = .half) : dataTake i t s = completeBit true (h + i) t s := by
  rw [dataTake, hHalf, hClass]

/-- A lone HALF is BAD, which in DATA is a frame error (R117, R121). -/
theorem dataTake_of_loneHalf {i h : Nat} {s : State} (t : Clock32) (hHalf : s.decoder.half = some h)
    (hClass : classify s.decoder.cell i ≠ .half) : dataTake i t s = { s with decoder := frameError s.decoder } := by
  rw [dataTake, hHalf]
  cases hc : classify s.decoder.cell i with
  | half => exact absurd hc hClass
  | full | sync | bad => rfl

/-- Settles O29, from Table 5-3's bands and the two things that can follow a HALF in DATA. -/
theorem intervalClasses : Obligations.IntervalClasses := by
  refine ⟨?classes, ?loneHalf, ?pair⟩
  case classes =>
    intro c i _
    rcases classify_cases c i with ⟨h, hBand⟩ | ⟨h, hBand⟩ | ⟨h, hBand⟩ | ⟨h, hBand⟩ | ⟨h, hBand⟩ <;>
      simp only [h, reduceCtorEq, true_iff, false_iff] <;> omega
  case loneHalf =>
    intro i h t s hHalf hClass
    rw [dataTake_of_loneHalf t hHalf hClass]
    exact frameError_spec s.decoder
  case pair =>
    intro i h t s hHalf hClass
    exact dataTake_of_pair t hHalf hClass

end Sys2Proof.Machine
end

