-- ==== Sys2Proof/Proofs/Resets.lean ====
section
/-! PROOFS. What both resets leave in the writer and the handset logic, and the flags and the display that follow
(R143, R177, R180, R210). -/

namespace Sys2Proof.Machine

/-! ### The flags as bits of the flag word (Table 10-4, R207) -/

/-- Flag n is bit n of the word, and stands at place n of the sixteen. -/
theorem allFlags_getElem?_bit (f : FaultFlag) : allFlags[f.bit]? = some f := by
  cases f <;> rfl

theorem mem_allFlags (f : FaultFlag) : f ∈ allFlags := List.mem_of_getElem? (allFlags_getElem?_bit f)

/-- Every bit of the word is some flag's. -/
theorem exists_flag_bit {i : Nat} (h : i < 16) : ∃ f : FaultFlag, f.bit = i := by
  have hBits : allFlags.map FaultFlag.bit = List.range 16 := rfl
  have hMem : i ∈ allFlags.map FaultFlag.bit := hBits ▸ List.mem_range.mpr h
  obtain ⟨f, -, hf⟩ := List.mem_map.mp hMem
  exact ⟨f, hf⟩

theorem bit_lt_sixteen (f : FaultFlag) : f.bit < 16 :=
  (List.getElem?_eq_some_iff.mp (allFlags_getElem?_bit f)).1

theorem bit_injective {f g : FaultFlag} (h : f.bit = g.bit) : f = g := by
  have hSame := allFlags_getElem?_bit f
  rw [h, allFlags_getElem?_bit g] at hSame
  exact (Option.some.inj hSame).symm

/-- A flag's mask has that flag's bit and no other's. -/
theorem mask_getLsbD_bit (f g : FaultFlag) : f.mask.getLsbD g.bit = decide (f = g) := by
  have hBit : (f.bit = g.bit) ↔ f = g := ⟨bit_injective, congrArg _⟩
  rw [FaultFlag.mask, ← BitVec.twoPow_eq, BitVec.getLsbD_twoPow]
  simp [hBit, bit_lt_sixteen]

/-- The word of the persisting conditions has the bits of the flags listed whose condition holds. -/
theorem persistWord_getLsbD_bit (s : State) (fs : List FaultFlag) (g : FaultFlag) :
    (persistWord s fs).getLsbD g.bit = (decide (g ∈ fs) && persists s g) := by
  induction fs with
  | nil => simp [persistWord]
  | cons f fs ih =>
    rw [persistWord]
    by_cases hSame : g = f
    · subst hSame
      cases hHolds : persists s g <;> simp [ih, hHolds, mask_getLsbD_bit]
    · have hMask : f.mask.getLsbD g.bit = false := by rw [mask_getLsbD_bit, decide_eq_false (Ne.symm hSame)]
      cases persists s f <;> simp [ih, hMask, hSame]

/-- The flag word is 0 exactly when no flag is set. -/
theorem flags_eq_zero_iff (s : State) : s.log.flags = 0 ↔ ∀ f, flagOn s f = false := by
  constructor
  · intro h f
    simp [flagOn, h]
  · intro h
    refine BitVec.eq_of_getLsbD_eq fun i hi => ?_
    obtain ⟨f, rfl⟩ := exists_flag_bit hi
    exact (h f).trans (by simp)

/-! ### What the display shows (R177) -/

theorem lowestFlag_eq_none_iff (s : State) (fs : List FaultFlag) :
    lowestFlag s fs = none ↔ ∀ f ∈ fs, flagOn s f = false := by
  induction fs with
  | nil => simp [lowestFlag]
  | cons f fs ih => cases h : flagOn s f <;> simp [lowestFlag, h, ih]

theorem lowestFlag_allFlags_eq_none_iff (s : State) : lowestFlag s allFlags = none ↔ s.log.flags = 0 := by
  rw [lowestFlag_eq_none_iff, flags_eq_zero_iff]
  exact ⟨fun h f => h f (mem_allFlags f), fun h f _ => h f⟩

/-- With a flag set the display shows a fault. -/
theorem display_of_flags_ne_zero {s : State} (h : s.log.flags ≠ 0) : (display s).1 = .letterE := by
  unfold display
  cases hLowest : lowestFlag s allFlags with
  | none => exact absurd ((lowestFlag_allFlags_eq_none_iff s).mp hLowest) h
  | some f => rfl

/-- With no fault, no "Err", no entry and no slot in gate the display shows three dashes. -/
theorem display_of_nothing {s : State} (hFlags : s.log.flags = 0) (hErr : s.handset.errTimer = none)
    (hEntry : s.handset.entry = []) (hGate : s.transport.slotInGate = none) : display s = (.dash, .dash, .dash) := by
  simp [display, (lowestFlag_allFlags_eq_none_iff s).mpr hFlags, hErr, hEntry, hGate]

/-! ### A report that counts no press (R168) -/

/-- Without a reference count no reply counts a press. -/
theorem countsPress_of_no_lastCount {s : State} (h : s.handset.lastCount = none) (r : HandsetReport) :
    countsPress s r = false := by
  cases r with
  | none => rfl
  | some reply => simp [countsPress, h]

@[simp] theorem repeatAt_lastCount (pressed : Bool) (r : HandsetReport) (s : State) :
    (repeatAt pressed r s).handset.lastCount = s.handset.lastCount := by
  unfold repeatAt
  (repeat' split) <;> rfl

/-- A reply that counts no press reaches no key: it is recorded, and goes on to the auto-repeat and the focus motor. -/
theorem handsetReport_of_uncounted {s : State} {r : HandsetReport} (h : countsPress s r = false) :
    handsetReport r s = focusReport (focusOf r) (repeatAt false r (recordReport r s)) := by
  cases r <;> simp [handsetReport, h]

/-- An uncounted good reply leaves its press count as the reference count. -/
theorem handsetReport_lastCount_of_uncounted {s : State} {code second : Byte}
    (h : countsPress s (some (code, second)) = false) :
    (handsetReport (some (code, second)) s).handset.lastCount = some (replyCount second) := by
  rw [handsetReport_of_uncounted h]
  simp [recordReport]

/-! ### A change of the power state -/

/-- Posting adds entries of its own kind alone. -/
theorem kind_of_mem_postGate_ring {k : LogKind} {src : LogSource} {cueNo : Word} {d1 d2 : Nat} {s : State}
    (hRing : ∀ e ∈ s.log.ring, e.kind = k) : ∀ e ∈ (postGate k src cueNo d1 d2 s).log.ring, e.kind = k := by
  intro e he
  rw [postGate, post_log] at he
  dsimp only at he
  split at he
  · rcases List.mem_append.mp he with hOld | hNew
    · exact hRing e hOld
    · rw [List.mem_singleton.mp hNew]
  · rcases List.mem_append.mp he with hOld | hNew
    · exact hRing e (List.mem_of_mem_drop hOld)
    · rw [List.mem_singleton.mp hNew]

/-- A change of the power state logs POWER and nothing else (R85). -/
theorem setPower_log (st : PowerState) (cause : Nat) (s : State) :
    (setPower st cause s).log = (postGate .power .cooling noCue st.code cause s).log := by
  unfold setPower
  dsimp only
  split <;> simp

/-- A change of the power state stops the focus motor or leaves the transport as it is (R54, R85). -/
theorem setPower_transport_cases (st : PowerState) (cause : Nat) (s : State) :
    (setPower st cause s).transport = s.transport ∨ (setPower st cause s).transport = (stopFocus s).transport := by
  unfold setPower
  dsimp only
  split <;> simp

/-! ### The state right after a reset -/

/-- What both resets leave in the writer and the handset logic, with the deck and the slide transport as those two meet
them (R57, R129, R143, R180), and a log that holds POWER entries alone (R102, R210). -/
structure JustReset (s : State) : Prop where
  writer : s.writer = resetWriter
  handset : s.handset = resetHandset
  deckMode : s.deck.mode = .stop
  focus : s.transport.focus = .stopped
  slotInGate : s.transport.slotInGate = none
  powerOnly : ∀ e ∈ s.log.ring, e.kind = .power

theorem resetState_justReset (r : ResetSense) : JustReset (resetState r) where
  writer := rfl
  handset := rfl
  deckMode := rfl
  focus := rfl
  slotInGate := rfl
  powerOnly := fun _ he => absurd he List.not_mem_nil

/-- Only the six places that `JustReset` names decide it. -/
theorem JustReset.congr {s t : State} (h : JustReset s) (hWriter : t.writer = s.writer)
    (hHandset : t.handset = s.handset) (hMode : t.deck.mode = s.deck.mode) (hTransport : t.transport = s.transport)
    (hRing : t.log.ring = s.log.ring) : JustReset t where
  writer := hWriter.trans h.writer
  handset := hHandset.trans h.handset
  deckMode := hMode.trans h.deckMode
  focus := hTransport ▸ h.focus
  slotInGate := hTransport ▸ h.slotInGate
  powerOnly := hRing ▸ h.powerOnly

theorem blocksAfterInput_justReset (r : ResetSense) (s : State) : JustReset (blocksAfterInput r s) :=
  (resetState_justReset r).congr rfl rfl rfl rfl rfl

theorem JustReset.setPower {s : State} (h : JustReset s) (st : PowerState) (cause : Nat) :
    JustReset (setPower st cause s) where
  writer := by simpa using h.writer
  handset := by simpa using h.handset
  deckMode := by simpa using h.deckMode
  focus := by
    rcases setPower_transport_cases st cause s with hKept | hStopped
    · rw [hKept]; exact h.focus
    · rw [hStopped]; rfl
  slotInGate := by
    rcases setPower_transport_cases st cause s with hKept | hStopped
    · rw [hKept]; exact h.slotInGate
    · rw [hStopped]; exact h.slotInGate
  powerOnly := by
    rw [setPower_log]
    exact kind_of_mem_postGate_ring h.powerOnly

theorem JustReset.testShutdown {s : State} (h : JustReset s) : JustReset (testShutdown s) := by
  rcases testShutdown_cases s with ⟨-, hKept⟩ | ⟨-, hLeft⟩
  · rw [hKept]; exact h
  · rw [hLeft]; exact h.setPower .standby 5

theorem JustReset.flagsAfter {s : State} (h : JustReset s) : JustReset (flagsAfter s) := h.congr rfl rfl rfl rfl rfl

/-- No persisting condition is a matter of the log, so that setting the flags does not change which hold. -/
theorem persists_flagsAfter (s : State) (f : FaultFlag) : persists (flagsAfter s) f = persists s f := by
  cases f <;> rfl

/-- The flags set are those whose conditions hold (R210). -/
theorem flagOn_flagsAfter (s : State) (f : FaultFlag) : flagOn (flagsAfter s) f = persists (flagsAfter s) f := by
  have hBit := persistWord_getLsbD_bit s allFlags f
  rw [decide_eq_true (mem_allFlags f), Bool.true_and] at hBit
  rw [persists_flagsAfter]
  exact hBit

/-- Either reset ends in a state just reset, with the flags set last (R210). -/
theorem exec_reset_justReset {c : Instr} {r : ResetSense} (hc : c = .powerOnReset r ∨ c = .resetInput r) (s : State) :
    ∃ t, exec c s = .next t ∧ JustReset t ∧ ∀ f, flagOn t f = persists t f := by
  rcases hc with rfl | rfl
  case inl =>
    have hReset : JustReset { resetState r with
        pending := s.pending, free := s.free, path := pathAfter s.path false false } :=
      (resetState_justReset r).congr rfl rfl rfl rfl rfl
    exact ⟨_, exec_powerOnReset r s, hReset.flagsAfter, flagOn_flagsAfter _⟩
  case inr =>
    refine ⟨_, exec_resetInput r s, JustReset.flagsAfter ?_, flagOn_flagsAfter _⟩
    have hBlocks := blocksAfterInput_justReset r s
    split
    · exact hBlocks.setPower .shutdown 6
    · exact hBlocks.testShutdown

/-! ### Duplicates (R127) -/

theorem duplicates_some_iff (f : CueFrame) (t : Clock32) (a : AcceptedFrame) :
    duplicates f t (some a) = true ↔
      (a.kind = f.kind ∧ a.sequence = f.sequence ∧ a.data = f.data) ∧ (t - a.time).toNat < 400000 := by
  simp only [duplicates, Bool.and_eq_true, decide_eq_true_eq, and_assoc]

/-- Settles O4, from the state that both resets end in, and from what makes a frame a duplicate. -/
theorem writerAndHandsetAfterEitherReset : Obligations.WriterAndHandsetAfterEitherReset := by
  refine ⟨?writer, ?duplicate, ?handset⟩
  case writer =>
    intro c r s hc
    obtain ⟨t, hNext, hReset, -⟩ := exec_reset_justReset hc s
    refine ⟨t, hNext, ?_⟩
    rw [recordEnable, hReset.writer, hReset.deckMode]
    exact ⟨rfl, rfl, rfl, rfl, rfl, rfl, rfl, rfl, hReset.powerOnly⟩
  case duplicate =>
    intro f a t hKind hSequence hData
    rw [duplicates_some_iff]
    exact and_iff_right ⟨hKind, hSequence, hData⟩
  case handset =>
    intro c r s hc
    obtain ⟨t, hNext, hReset, hFlags⟩ := exec_reset_justReset hc s
    have hHandset := hReset.handset
    have hUncounted := countsPress_of_no_lastCount (congrArg Handset.lastCount hHandset)
    have hDashes : t.log.flags = 0 → display t = (.dash, .dash, .dash) := fun hNone =>
      display_of_nothing hNone (congrArg Handset.errTimer hHandset) (congrArg Handset.entry hHandset) hReset.slotInGate
    have hPersisting : ∀ f, persists t f = true → flagOn t f = true := fun f hHolds => (hFlags f).trans hHolds
    have hFirst : ∀ code second : Byte,
        (handsetReport (some (code, second)) t).handset.lastCount = some (replyCount second) :=
      fun _ _ => handsetReport_lastCount_of_uncounted (hUncounted _)
    refine ⟨t, hNext, ?_⟩
    rw [hHandset]
    exact ⟨rfl, rfl, rfl, rfl, rfl, rfl, rfl, rfl, rfl, hReset.focus, hDashes, display_of_flags_ne_zero, hPersisting,
      hUncounted, hFirst⟩

end Sys2Proof.Machine
end

