-- ==== Sys2Proof/Proofs/ShowLink.lean ====
section
/-! PROOFS. The follower's sync timer: a good SYNC, three seconds without one, and cues while LOST (R164 to R166). -/

namespace Sys2Proof.Machine

/-! ### A good SYNC (R164) -/

/-- FOLLOWER_SYNC's meaning. -/
theorem exec_followerSync : ∀ (lead : Clock32) (age : Nat) (s : State),
    exec (.followerSync lead age) s = execFollowerSync lead age s := by intros; rfl

theorem execFollowerSync_of_listening {s : State} (h : s.line.state = .listening) (lead : Clock32) (age : Nat) :
    execFollowerSync lead age s = .next (takeSync lead (showClockAgo age s) s) :=
  congrArg Host.Outcome.next (if_pos (decide_eq_true h))

/-- The line unit after a good SYNC: the new offset, HELD, and the sync timer started afresh, whether or not the old offset
made a step to log. -/
theorem takeSync_line (lead here : Clock32) (s : State) :
    (takeSync lead here s).line =
      { s.line with offset := some (lead - here), syncHeld := true, syncWatch := startTimer syncWatchUs s } := by
  unfold takeSync
  cases s.line.offset with
  | none => rfl
  | some old => simp

/-! ### The sync timer's end (R165) -/

/-- SYNC_LOST's meaning. -/
theorem exec_syncLost : ∀ s : State, exec .syncLost s = execSyncLost s := by intros; rfl

/-- The state LOST, with the sync timer at rest; the offset stays. -/
def loseSync (s : State) : State := { s with line := { s.line with syncHeld := false, syncWatch := none } }

theorem execSyncLost_of_held {s : State} (hRuns : s.line.syncWatch.isSome = true) (hHeld : s.line.syncHeld = true) :
    execSyncLost s = .next (postGate .syncLost .line noCue 3 s.line.errors (loseSync s)) :=
  congrArg Host.Outcome.next ((if_pos hRuns).trans (if_pos hHeld))

/-! ### Broadcast cues while LOST (R166) -/

theorem localStart_of_lost {s : State} (h : s.line.syncHeld = false) (t16 : Word) :
    localStart t16 s = s.clock.showClock := by
  unfold localStart
  rw [h]

/-- Settles O38, from the line after a good SYNC, and from what a posted entry changes and leaves. -/
theorem syncTimerLosesSync : Obligations.SyncTimerLosesSync := by
  refine ⟨?goodSync, ?expiry, ?lost⟩
  case goodSync =>
    intro lead age s hListening
    refine ⟨_, (exec_followerSync lead age s).trans (execFollowerSync_of_listening hListening lead age), ?_⟩
    rw [takeSync_line]
    exact ⟨rfl, rfl⟩
  case expiry =>
    intro s hRuns hHeld
    obtain ⟨hLogAlone, hNumbered, hEntry⟩ := postGate_spec .syncLost .line noCue 3 s.line.errors (loseSync s)
    have hLine : (postGate .syncLost .line noCue 3 s.line.errors (loseSync s)).line = (loseSync s).line := by simp
    refine ⟨_, (exec_syncLost s).trans (execSyncLost_of_held hRuns hHeld), hLine, ?_, hNumbered, hEntry⟩
    rw [hLine]
    exact hLogAlone
  case lost =>
    intro t16 s hLost
    exact localStart_of_lost hLost t16

end Sys2Proof.Machine
end

section
/-! PROOFS. A WRITE begun with the latch shadow clear: what the path does with its bytes and at its end (R182, R191). -/

namespace Sys2Proof.Machine

/-! ### A byte of an unlatched WRITE (R191) -/

/-- WRITE_DATA_BYTE's meaning. -/
theorem exec_writeDataByte : ∀ (b : Byte) (s : State), exec (.writeDataByte b) s = execWriteDataByte b s := by
  intros; rfl

theorem execWriteDataByte_of_unlatched {x : Txn} {s : State} (hTxn : s.path.txn = some x)
    (hKind : x.kind = .write false) (b : Byte) : execWriteDataByte b s = .next (writeUnlatched x b s) := by
  simp only [execWriteDataByte, hTxn, hKind]

/-- The whole effect of a byte of an unlatched WRITE, by the state of the leg and the class of the address: a byte behind the
leg's end goes nowhere, a window byte ends the leg, any other byte goes to the memory. In each case only the address moves
on besides. -/
theorem writeUnlatched_eq (x : Txn) (b : Byte) (s : State) :
    writeUnlatched x b s =
      let window := (addrClass s.path.map x.addr.toNat).isWindow
      { s with path := { s.path with
        txn := some (nextAddr x)
        legOpen := s.path.legOpen && !window
        legBytes := if s.path.legOpen = true ∧ window = false then s.path.legBytes ++ [b] else s.path.legBytes
        latch := if s.path.legOpen && window then false else s.path.latch } } := by
  cases hLeg : s.path.legOpen with
  | false => simp [writeUnlatched, hLeg, setTxn]
  | true =>
    cases hWindow : (addrClass s.path.map x.addr.toNat).isWindow with
    | true => simp [writeUnlatched, hLeg, hWindow, setTxn, endLeg]
    | false => simp [writeUnlatched, hLeg, hWindow, setTxn, forward]

/-! ### The end of an unlatched WRITE (R182, R200) -/

/-- TRANSACTION_END's meaning. -/
theorem exec_transactionEnd : ∀ s : State, exec .transactionEnd s = execTransactionEnd s := by intros; rfl

/-- None of R200's steps is taken: the transaction closes and the shadow clears. -/
theorem execTransactionEnd_of_unlatched {x : Txn} {s : State} (hTxn : s.path.txn = some x)
    (hKind : x.kind = .write false) : execTransactionEnd s = .next (endLeg (closeTxn s)) := by
  simp only [execTransactionEnd, hTxn, hKind]

/-- Settles O43, from the whole effect of one byte and from the end that applies nothing. -/
theorem unlatchedWritePassesUnnoticed : Obligations.UnlatchedWritePassesUnnoticed := by
  intro b x s hTxn hKind
  refine ⟨⟨_, (exec_writeDataByte b s).trans (execWriteDataByte_of_unlatched hTxn hKind b), ?_⟩,
    (exec_transactionEnd s).trans (execTransactionEnd_of_unlatched hTxn hKind)⟩
  rw [writeUnlatched_eq]
  exact ⟨rfl, rfl, rfl, rfl, rfl, rfl, rfl, rfl⟩

end Sys2Proof.Machine
end

section
/-! PROOFS. What a chain of updates keeps: one relation between two states that carries every invariant of
Sys2Proof/Safety.lean across, with one rule for each block of the state. -/

namespace Sys2Proof.Machine

-- Elaborated in parallel, this many proofs start more threads than the check has memory for.
set_option Elab.async false

/-! ### The invariants that read one block alone -/

/-- The carriage timer runs while the lamp is SWAPPING (R59). -/
def SwapTimed (l : Lamp) : Prop := l.state = .swapping → l.carriageTimer.isSome = true

/-- The run-up and the fan watch wait for no timer that stands (R87, R97). -/
structure PowerWaits (p : Power) : Prop where
  runup : p.state = .runup → p.runupTimer.isSome = true
  spinUp : p.fanWatch = .spinUp → p.spinTimer.isSome = true
  watching : p.fanWatch = .watching → p.gapTimer.isSome = true

/-- The line unit waits for no timer that stands (R146 to R159). -/
structure LineWaits (l : Line) : Prop where
  off : l.state = .off → l.discharge.isSome = true
  detect : l.state = .detect → l.detectPeriod.isSome = true
  powering : l.state = .powering → l.settle.isSome = true
  sending : l.state = .sending → l.frameEnd.isSome = true
  awaiting : l.state = .awaiting → l.window.isSome = true
  retry : l.state = .retryWait → l.retry.isSome = true
  up : l.state.powered = true → l.state ≠ .powering → l.noAnswer.isSome = true ∧ l.pollPeriod.isSome = true

/-- The entry timer runs while digits stand in the entry (R174). -/
def EntryTimed (h : Handset) : Prop := h.entry ≠ [] → h.entryTimer.isSome = true

/-- The hold timer runs while the auto-repeat waits for it (R176). -/
def HoldTimed (h : Handset) : Prop := h.autoRepeat = .timing → h.holdTimer.isSome = true

/-- The run allowance counts while the focus motor runs (R55). -/
def FocusTimed (x : Transport) : Prop := x.focus ≠ .stopped → x.focusAllowance.due.isSome = true

/-- The cam, the seat watch and the tray's move wait for no timer that stands (R32, R34, R36, R43). -/
structure MoveTimed (x : Transport) : Prop where
  cam : x.camRunning = true → x.camTimer.due.isSome = true
  seat : x.phase = .seat → x.seatTimer.isSome = true
  pause : ∀ v, x.move = some v → v.status = .paused → x.stallTimer.isSome = true
  step : ∀ v, x.move = some v → stepOwed x v → x.stepTimer.isSome = true

theorem transportTimed_iff (s : State) : TransportTimed s ↔ MoveTimed s.transport ∧ FocusTimed s.transport :=
  ⟨fun h => ⟨⟨h.cam, h.seat, h.pause, h.step⟩, h.focus⟩, fun ⟨m, f⟩ => ⟨m.cam, m.seat, m.pause, m.step, f⟩⟩

theorem powerTimed_iff (s : State) : PowerTimed s ↔ SwapTimed s.lamp ∧ PowerWaits s.power :=
  ⟨fun h => ⟨h.carriage, h.runup, h.spinUp, h.watching⟩, fun ⟨c, w⟩ => ⟨c, w.runup, w.spinUp, w.watching⟩⟩

theorem lineTimed_iff (s : State) : LineTimed s ↔ LineWaits s.line ∧ EntryTimed s.handset ∧ HoldTimed s.handset :=
  ⟨fun h => ⟨⟨h.off, h.detect, h.powering, h.sending, h.awaiting, h.retry, h.up⟩, h.entry, h.hold⟩,
    fun ⟨w, e, r⟩ => ⟨w.off, w.detect, w.powering, w.sending, w.awaiting, w.retry, w.up, e, r⟩⟩

/-- The counts of both sockets are within their widths (R80, R81). -/
def UsageInRange (l : Lamp) : Prop := usageOk l.usePrimary ∧ usageOk l.useSpare

/-- The minutes and starts of both sockets have not decreased (R81). -/
structure UsageGrows (l l' : Lamp) : Prop where
  primaryMinutes : l.usePrimary.minutes ≤ l'.usePrimary.minutes
  primaryStarts : l.usePrimary.starts ≤ l'.usePrimary.starts
  spareMinutes : l.useSpare.minutes ≤ l'.useSpare.minutes
  spareStarts : l.useSpare.starts ≤ l'.useSpare.starts

theorem UsageGrows.refl (l : Lamp) : UsageGrows l l := ⟨Nat.le_refl _, Nat.le_refl _, Nat.le_refl _, Nat.le_refl _⟩

theorem UsageGrows.trans {a b c : Lamp} (h : UsageGrows a b) (k : UsageGrows b c) : UsageGrows a c :=
  ⟨h.1.trans k.1, h.2.trans k.2, h.3.trans k.3, h.4.trans k.4⟩

/-! ### The relation -/

/-- What a chain of updates may leave open for a moment, to be closed by a later update of the same operation. -/
inductive Open where
  | flag (f : FaultFlag)
  | drive
  | transport
  | owned
  | role
  | swap
  | deck
  | line
  | entry
  | usage
  | path
  deriving DecidableEq

/-- The part went from `s` to `t` by updates that keep every invariant, but for those listed in `o`: an invariant of `s`
holds of `t`, a set flag stays set, and the condition of a tracked flag began only with the flag set. The queue of the commands
that wait and the count of free readings stay, and so does the memory path. -/
structure Keeps (o : List Open) (s t : State) : Prop where
  pending : t.pending = s.pending := by exact rfl
  free : t.free = s.free := by exact rfl
  path : .path ∉ o → t.path = s.path := by exact fun _ => rfl
  drive : .drive ∉ o → DriveSafe s → DriveSafe t := by exact fun _ h => ⟨h.lit, h.dark, h.paid, h.mark⟩
  settled : .transport ∉ o → TransportSettled s → TransportSettled t := by
    exact fun _ h => ⟨h.phase, h.still, h.seat, h.target, h.ready, h.lost⟩
  moves : .transport ∉ o → TransportSettled s → MoveTimed s.transport → MoveTimed t.transport := by exact fun _ _ => id
  focus : FocusTimed s.transport → FocusTimed t.transport := by exact id
  owned : .owned ∉ o → CycleOwned s → CycleOwned t := by exact fun _ h => ⟨h.own, h.phases, h.changing, h.stopping⟩
  map : MapSound s → MapSound t := by exact fun h => ⟨h.count, h.fits, h.apart, h.pointer⟩
  stores : StoresCanonical s → StoresCanonical t := by
    exact fun h => ⟨h.header, h.program, h.mirror, h.settings, h.slots, h.txn⟩
  writer : WriterClear s → WriterClear t := by exact fun h => ⟨h.pointer, h.sorted, h.clear⟩
  buffers : BuffersBounded s → BuffersBounded t := by
    exact fun h => ⟨h.cues, h.broadcasts, h.edges, h.polls, h.digits, h.bits, h.chars⟩
  log : LogSequential s → LogSequential t := by exact fun h => ⟨h.size, h.numbers⟩
  levels : LevelsBounded s → LevelsBounded t := by
    exact fun h => ⟨h.level, h.ramp, h.duty, h.smoothed, h.handed, h.fan, h.gate, h.house, h.audio, h.audioRamp⟩
  counters : CountersBounded s → CountersBounded t := by
    exact fun h => ⟨h.primary, h.spare, h.lost, h.declined, h.partialLive, h.frameErrors, h.overflows, h.lineErrors,
      h.misses, h.counter, h.tapeTime, h.cooldown, h.sequence⟩
  cell : CellBounded s → CellBounded t := by exact fun h => ⟨h.cell, h.run, h.sum⟩
  role : .role ∉ o → RoleAgrees s → RoleAgrees t := by exact fun _ h => ⟨h.role, h.state⟩
  swap : .swap ∉ o → SwapTimed s.lamp → SwapTimed t.lamp := by exact fun _ => id
  power : PowerWaits s.power → PowerWaits t.power := by exact id
  deck : .deck ∉ o → DeckTimed s → DeckTimed t := by
    exact fun _ h => ⟨h.brake, h.request, h.watch, h.second, h.cells, h.decoder, h.pass⟩
  line : .line ∉ o → LineWaits s.line → LineWaits t.line := by exact fun _ => id
  entry : .entry ∉ o → EntryTimed s.handset → EntryTimed t.handset := by exact fun _ => id
  hold : HoldTimed s.handset → HoldTimed t.handset := by exact id
  flags : ∀ f, flagOn s f = true → flagOn t f = true := by exact fun _ => id
  tracks : ∀ f ∈ trackedFlags, .flag f ∉ o → persists t f = true → persists s f = true ∨ flagOn t f = true
  usages : UsageInRange s.lamp → UsageInRange t.lamp := by exact id
  usage : .usage ∉ o → UsageInRange s.lamp → UsageGrows s.lamp t.lamp := by exact fun _ _ => .refl _

theorem Keeps.refl (o : List Open) (s : State) : Keeps o s s := { tracks := fun _ _ _ => .inl }

theorem Keeps.trans {o : List Open} {s t u : State} (h : Keeps o s t) (k : Keeps o t u) : Keeps o s u where
  pending := k.pending.trans h.pending
  free := k.free.trans h.free
  path n := (k.path n).trans (h.path n)
  drive n x := k.drive n (h.drive n x)
  settled n x := k.settled n (h.settled n x)
  moves n x y := k.moves n (h.settled n x) (h.moves n x y)
  focus x := k.focus (h.focus x)
  owned n x := k.owned n (h.owned n x)
  map x := k.map (h.map x)
  stores x := k.stores (h.stores x)
  writer x := k.writer (h.writer x)
  buffers x := k.buffers (h.buffers x)
  log x := k.log (h.log x)
  levels x := k.levels (h.levels x)
  counters x := k.counters (h.counters x)
  cell x := k.cell (h.cell x)
  role n x := k.role n (h.role n x)
  swap n x := k.swap n (h.swap n x)
  power x := k.power (h.power x)
  deck n x := k.deck n (h.deck n x)
  line n x := k.line n (h.line n x)
  entry n x := k.entry n (h.entry n x)
  hold x := k.hold (h.hold x)
  flags f x := k.flags f (h.flags f x)
  tracks f hf n x := (k.tracks f hf n x).elim (fun y => (h.tracks f hf n y).imp_right (k.flags f)) .inr
  usages x := k.usages (h.usages x)
  usage n x := (h.usage n x).trans (k.usage n (h.usages x))

/-- A chain that keeps all but `o` keeps all but more. -/
theorem Keeps.weaken {o o' : List Open} {s t : State} (h : Keeps o s t) (sub : ∀ x, x ∈ o → x ∈ o') : Keeps o' s t :=
  have skip : ∀ {x : Open}, x ∉ o' → x ∉ o := fun n m => n (sub _ m)
  { h with
    drive := fun n => h.drive (skip n), settled := fun n => h.settled (skip n), moves := fun n => h.moves (skip n)
    owned := fun n => h.owned (skip n), role := fun n => h.role (skip n), swap := fun n => h.swap (skip n)
    deck := fun n => h.deck (skip n), line := fun n => h.line (skip n), entry := fun n => h.entry (skip n)
    tracks := fun f hf n => h.tracks f hf (skip n), usage := fun n => h.usage (skip n), path := fun n => h.path (skip n) }

/-- A chain may leave one more invariant open. -/
theorem Keeps.opens {o : List Open} {s t : State} (h : Keeps o s t) (x : Open) : Keeps (x :: o) s t :=
  h.weaken fun _ => List.mem_cons_of_mem x

/-- What an invariant left open has to show to be closed. -/
def Open.Shut (s t : State) : Open → Prop
  | .flag f => persists t f = true → persists s f = true ∨ flagOn t f = true
  | .drive => DriveSafe s → DriveSafe t
  | .transport => TransportSettled s → TransportSettled t ∧ (MoveTimed s.transport → MoveTimed t.transport)
  | .owned => CycleOwned s → CycleOwned t
  | .role => RoleAgrees s → RoleAgrees t
  | .swap => SwapTimed s.lamp → SwapTimed t.lamp
  | .deck => DeckTimed s → DeckTimed t
  | .line => LineWaits s.line → LineWaits t.line
  | .entry => EntryTimed s.handset → EntryTimed t.handset
  | .usage => UsageInRange s.lamp → UsageGrows s.lamp t.lamp
  | .path => t.path = s.path

/-- A chain that keeps what it left open keeps everything. -/
theorem Keeps.closes {o : List Open} {s t : State} {x : Open} (h : Keeps (x :: o) s t) (k : x ∉ o → x.Shut s t) :
    Keeps o s t := by
  by_cases mem : x ∈ o
  · exact h.weaken fun y hy => (List.mem_cons.mp hy).elim (fun e => e ▸ mem) id
  replace k := k mem
  have out : ∀ {y : Open}, y ∉ o → x ≠ y → y ∉ x :: o := fun n ne => List.not_mem_cons_of_ne_of_not_mem ne.symm n
  refine
    { h with
      drive := fun n => ?_, settled := fun n hs => ?_, moves := fun n hs => ?_, owned := fun n => ?_, role := fun n => ?_
      swap := fun n => ?_, deck := fun n => ?_, line := fun n => ?_, entry := fun n => ?_, tracks := fun f hf n => ?_
      usage := fun n => ?_, path := fun n => ?_ }
  · by_cases e : x = .path
    · subst e; exact k
    · exact h.path (out n e)
  · by_cases e : x = .drive
    · subst e; exact k
    · exact h.drive (out n e)
  · by_cases e : x = .transport
    · subst e; exact (k hs).1
    · exact h.settled (out n e) hs
  · by_cases e : x = .transport
    · subst e; exact (k hs).2
    · exact h.moves (out n e) hs
  · by_cases e : x = .owned
    · subst e; exact k
    · exact h.owned (out n e)
  · by_cases e : x = .role
    · subst e; exact k
    · exact h.role (out n e)
  · by_cases e : x = .swap
    · subst e; exact k
    · exact h.swap (out n e)
  · by_cases e : x = .deck
    · subst e; exact k
    · exact h.deck (out n e)
  · by_cases e : x = .line
    · subst e; exact k
    · exact h.line (out n e)
  · by_cases e : x = .entry
    · subst e; exact k
    · exact h.entry (out n e)
  · by_cases e : x = .flag f
    · subst e; exact k
    · exact h.tracks f hf (out n e)
  · by_cases e : x = .usage
    · subst e; exact k
    · exact h.usage (out n e)

end Sys2Proof.Machine
end

section
/-! PROOFS. The rules of `Keeps`, one for each block: what an update of that block alone has to show. -/

namespace Sys2Proof.Machine

set_option Elab.async false

variable {o : List Open} {s t : State}

/-! ### The conditions of the tracked flags -/

/-- The conditions of the tracked flags, one by one. -/
theorem tracks_of {o : List Open} {t u : State}
    (map : .flag .mapFault ∉ o → u.path.map = .mapFault → t.path.map = .mapFault ∨ flagOn u .mapFault = true := by
      exact fun _ => .inl)
    (cam : u.transport.substituted = true → t.transport.substituted = true ∨ flagOn u .camDefault = true := by exact .inl)
    (jam : u.transport.state = .jammed → t.transport.state = .jammed ∨ flagOn u .jam = true := by exact .inl)
    (primary : .flag .primaryFailed ∉ o → u.lamp.primary = .failed →
      t.lamp.primary = .failed ∨ flagOn u .primaryFailed = true := by exact fun _ => .inl)
    (spare : .flag .spareFailed ∉ o → u.lamp.spare = .failed →
      t.lamp.spare = .failed ∨ flagOn u .spareFailed = true := by exact fun _ => .inl)
    (fault : .flag .noLamp ∉ o → u.lamp.state = .fault → t.lamp.state = .fault ∨ flagOn u .noLamp = true := by
      exact fun _ => .inl)
    (fan : .flag .fanFailed ∉ o → u.power.fanWatch = .failed → t.power.fanWatch = .failed ∨ flagOn u .fanFailed = true := by
      exact fun _ => .inl)
    (hot : .flag .thermalHot ∉ o → u.power.band = .hot → t.power.band = .hot ∨ flagOn u .thermalHot = true := by
      exact fun _ => .inl)
    (line : .flag .lineFault ∉ o → u.line.state = .lineFault →
      t.line.state = .lineFault ∨ flagOn u .lineFault = true := by exact fun _ => .inl) :
    ∀ f ∈ trackedFlags, .flag f ∉ o → persists u f = true → persists t f = true ∨ flagOn u f = true := by
  intro f hf n h
  simp only [trackedFlags, List.mem_cons, List.not_mem_nil, or_false] at hf
  rcases hf with rfl | rfl | rfl | rfl | rfl | rfl | rfl | rfl | rfl <;>
    simp only [persists, decide_eq_true_eq] at h ⊢
  · exact map n h
  · exact cam h
  · exact jam h
  · exact primary n h
  · exact spare n h
  · exact fault n h
  · exact fan n h
  · exact hot n h
  · exact line n h

/-! ### The clocks and the counts that no invariant reads -/

theorem Keeps.of_clock (h : Keeps o s t) (c : Clock) : Keeps o s { t with clock := c } := h.trans { tracks := tracks_of }

/-! ### The cue engine -/

/-- What an update of the cue engine has to show. -/
structure EngineKeeps (o : List Open) (t : State) (e : Engine) : Prop where
  owned : .owned ∉ o → CycleOwned t → CycleOwned { t with engine := e } := by
    exact fun _ h => ⟨h.own, h.phases, h.changing, h.stopping⟩
  pointer : MapSound t → e.pointer ≤ entriesInForce t := by exact fun h => h.pointer
  queue : BuffersBounded t → e.queue.length ≤ 4 := by exact fun h => h.cues

theorem Keeps.of_engine {e : Engine} (h : Keeps o s t) (k : EngineKeeps o t e) : Keeps o s { t with engine := e } :=
  h.trans
    { owned := k.owned
      map := fun h => ⟨h.count, h.fits, h.apart, k.pointer h⟩
      buffers := fun h => { h with cues := k.queue h }
      tracks := tracks_of }

/-! ### The slide transport -/

/-- What an update of the slide transport has to show. -/
structure TransportKeeps (o : List Open) (t : State) (x : Transport) : Prop where
  drive : .drive ∉ o → DriveSafe t → DriveSafe { t with transport := x } := by
    exact fun _ h => ⟨h.lit, h.dark, h.paid, h.mark⟩
  settled : .transport ∉ o → TransportSettled t → TransportSettled { t with transport := x } := by
    exact fun _ h => ⟨h.phase, h.still, h.seat, h.target, h.ready, h.lost⟩
  moves : .transport ∉ o → TransportSettled t → MoveTimed t.transport → MoveTimed x := by
    exact fun _ _ h => ⟨h.cam, h.seat, h.pause, h.step⟩
  focus : FocusTimed t.transport → FocusTimed x := by exact id
  owned : .owned ∉ o → CycleOwned t → CycleOwned { t with transport := x } := by
    exact fun _ h => ⟨h.own, h.phases, h.changing, h.stopping⟩
  substituted : x.substituted = true → t.transport.substituted = true ∨ flagOn t .camDefault = true := by exact .inl
  jammed : x.state = .jammed → t.transport.state = .jammed ∨ flagOn t .jam = true := by exact .inl

theorem Keeps.of_transport {x : Transport} (h : Keeps o s t) (k : TransportKeeps o t x) :
    Keeps o s { t with transport := x } :=
  h.trans
    { drive := k.drive, settled := k.settled, moves := k.moves, focus := k.focus, owned := k.owned
      tracks := tracks_of (cam := k.substituted) (jam := k.jammed) }

/-! ### The lamp controller -/

/-- What an update of the lamp controller has to show. -/
structure LampKeeps (o : List Open) (t : State) (l : Lamp) : Prop where
  drive : .drive ∉ o → DriveSafe t → DriveSafe { t with lamp := l } := by
    exact fun _ h => ⟨h.lit, h.dark, h.paid, h.mark⟩
  levels : LevelsBounded t → l.level ≤ 1024 ∧ l.ramp.l0 ≤ 1024 ∧ l.ramp.l1 ≤ 1024 := by exact fun h => ⟨h.level, h.ramp⟩
  duty : LevelsBounded t → l.duty ≤ 4095 := by exact fun h => h.duty
  counts : UsageInRange t.lamp → UsageInRange l := by exact id
  swap : .swap ∉ o → SwapTimed t.lamp → SwapTimed l := by exact fun _ => id
  primary : .flag .primaryFailed ∉ o → l.primary = .failed →
    t.lamp.primary = .failed ∨ flagOn t .primaryFailed = true := by exact fun _ => .inl
  spare : .flag .spareFailed ∉ o → l.spare = .failed →
    t.lamp.spare = .failed ∨ flagOn t .spareFailed = true := by exact fun _ => .inl
  fault : .flag .noLamp ∉ o → l.state = .fault → t.lamp.state = .fault ∨ flagOn t .noLamp = true := by exact fun _ => .inl
  usage : .usage ∉ o → UsageInRange t.lamp → UsageGrows t.lamp l := by
    exact fun _ _ => ⟨Nat.le_refl _, Nat.le_refl _, Nat.le_refl _, Nat.le_refl _⟩

theorem Keeps.of_lamp {l : Lamp} (h : Keeps o s t) (k : LampKeeps o t l) : Keeps o s { t with lamp := l } :=
  h.trans
    { drive := k.drive, swap := k.swap, usages := k.counts, usage := k.usage
      levels := fun h => { h with level := (k.levels h).1, ramp := (k.levels h).2, duty := k.duty h }
      counters := fun h =>
        have c := k.counts ⟨h.primary, h.spare⟩
        { h with primary := c.1, spare := c.2 }
      tracks := tracks_of (primary := k.primary) (spare := k.spare) (fault := k.fault) }

/-! ### The cooling and power unit -/

/-- What an update of the cooling and power unit has to show. -/
structure PowerKeeps (o : List Open) (t : State) (p : Power) : Prop where
  drive : .drive ∉ o → DriveSafe t → DriveSafe { t with power := p } := by
    exact fun _ h => ⟨h.lit, h.dark, h.paid, h.mark⟩
  smooth : LevelsBounded t → p.smoothed ≤ 4095 ∧ p.handed ≤ 4095 := by exact fun h => ⟨h.smoothed, h.handed⟩
  fan : LevelsBounded t → p.fanDuty ≤ 255 := by exact fun h => h.fan
  temperatures : LevelsBounded t → p.gateTemp ≤ 250 ∧ p.houseTemp ≤ 250 := by exact fun h => ⟨h.gate, h.house⟩
  cooldown : CountersBounded t → p.cooldown ≤ 2550 := by exact fun h => h.cooldown
  waits : PowerWaits t.power → PowerWaits p := by exact fun h => ⟨h.runup, h.spinUp, h.watching⟩
  failed : .flag .fanFailed ∉ o → p.fanWatch = .failed → t.power.fanWatch = .failed ∨ flagOn t .fanFailed = true := by
    exact fun _ => .inl
  hot : .flag .thermalHot ∉ o → p.band = .hot → t.power.band = .hot ∨ flagOn t .thermalHot = true := by
    exact fun _ => .inl

theorem Keeps.of_power {p : Power} (h : Keeps o s t) (k : PowerKeeps o t p) : Keeps o s { t with power := p } :=
  h.trans
    { drive := k.drive, power := k.waits
      levels := fun h =>
        { h with smoothed := (k.smooth h).1, handed := (k.smooth h).2, fan := k.fan h, gate := (k.temperatures h).1
                 house := (k.temperatures h).2 }
      counters := fun h => { h with cooldown := k.cooldown h }
      tracks := tracks_of (fan := k.failed) (hot := k.hot) }

/-! ### The deck, the decoder and the writer -/

/-- The audio level and its ramp are in range (R112). -/
def AudioInRange (d : Deck) : Prop := d.audio ≤ 63 ∧ d.ramp.a0 ≤ 63 ∧ d.ramp.a1 ≤ 63

/-- The tape counter and the tape time are within their widths (R107, R111). -/
def TapeInRange (d : Deck) : Prop :=
  (-2147483648 ≤ d.counter ∧ d.counter ≤ 2147483647) ∧ ∀ x, d.tapeTime = some x → x ≤ 65535

/-- The edges, bits and characters of the decoder keep their capacities, and its counts their widths (R115, R122). -/
structure DecoderInRange (d : Decoder) : Prop where
  edges : d.ring.length ≤ 256
  bits : d.bits.length ≤ 9
  chars : d.chars.length ≤ 3

/-- What an update of the deck, the decoder and the writer has to show. -/
structure TapeKeeps (o : List Open) (t : State) (d : Deck) (c : Decoder) (w : Writer) : Prop where
  audio : AudioInRange t.deck → AudioInRange d := by exact id
  tape : TapeInRange t.deck → TapeInRange d := by exact id
  decoder : DecoderInRange t.decoder → DecoderInRange c := by exact fun h => ⟨h.edges, h.bits, h.chars⟩
  errors : t.decoder.errors ≤ 255 → c.errors ≤ 255 := by exact id
  overflows : t.decoder.overflows ≤ 255 → c.overflows ≤ 255 := by exact id
  cell : CellBounded t → CellBounded { t with decoder := c } := by exact fun h => ⟨h.cell, h.run, h.sum⟩
  sorted : assocSorted t.writer.slots = true → assocSorted w.slots = true := by exact id
  clear : WriterClear t → WriterClear { t with writer := w } := by exact fun h => ⟨h.pointer, h.sorted, h.clear⟩
  sequence : t.writer.sequence < 4 → w.sequence < 4 := by exact id
  timed : .deck ∉ o → DeckTimed t → DeckTimed { t with deck := d, decoder := c, writer := w } := by
    exact fun _ h => ⟨h.brake, h.request, h.watch, h.second, h.cells, h.decoder, h.pass⟩

theorem Keeps.of_tape {d : Deck} {c : Decoder} {w : Writer} (h : Keeps o s t) (k : TapeKeeps o t d c w) :
    Keeps o s { t with deck := d, decoder := c, writer := w } :=
  have buffers : BuffersBounded t → DecoderInRange c := fun h => k.decoder ⟨h.edges, h.bits, h.chars⟩
  have audio : LevelsBounded t → AudioInRange d := fun h => k.audio ⟨h.audio, h.audioRamp⟩
  have tape : CountersBounded t → TapeInRange d := fun h => k.tape ⟨h.counter, h.tapeTime⟩
  h.trans
    { stores := fun h => { h with slots := k.sorted h.slots }
      writer := fun h => ⟨(k.clear h).pointer, (k.clear h).sorted, (k.clear h).clear⟩
      buffers := fun h => { h with edges := (buffers h).edges, bits := (buffers h).bits, chars := (buffers h).chars }
      levels := fun h => { h with audio := (audio h).1, audioRamp := (audio h).2 }
      counters := fun h =>
        { h with frameErrors := k.errors h.frameErrors, overflows := k.overflows h.overflows, counter := (tape h).1
                 tapeTime := (tape h).2, sequence := k.sequence h.sequence }
      cell := fun h => ⟨(k.cell h).cell, (k.cell h).run, (k.cell h).sum⟩
      deck := k.timed
      tracks := tracks_of }

/-! ### The line unit -/

/-- The broadcast queue and the poll list keep their capacities (R156, R158). -/
def LineInRange (l : Line) : Prop := l.queue.length ≤ 4 ∧ l.pollList.length ≤ 2

/-- The line unit's counts are within their widths (R160, R162). -/
def LineCounts (l : Line) : Prop :=
  l.errors ≤ 255 ∧ l.handset.misses ≤ 255 ∧ l.follower1.misses ≤ 255 ∧ l.follower2.misses ≤ 255
    ∧ l.follower3.misses ≤ 255

/-- What an update of the line unit has to show. -/
structure LineKeeps (o : List Open) (t : State) (l : Line) : Prop where
  buffers : LineInRange t.line → LineInRange l := by exact id
  counts : LineCounts t.line → LineCounts l := by exact id
  role : .role ∉ o → RoleAgrees t → RoleAgrees { t with line := l } := by exact fun _ h => ⟨h.role, h.state⟩
  waits : .line ∉ o → LineWaits t.line → LineWaits l := by
    exact fun _ h => ⟨h.off, h.detect, h.powering, h.sending, h.awaiting, h.retry, h.up⟩
  fault : .flag .lineFault ∉ o → l.state = .lineFault → t.line.state = .lineFault ∨ flagOn t .lineFault = true := by
    exact fun _ => .inl

theorem Keeps.of_line {l : Line} (h : Keeps o s t) (k : LineKeeps o t l) : Keeps o s { t with line := l } :=
  have buffers : BuffersBounded t → LineInRange l := fun h => k.buffers ⟨h.broadcasts, h.polls⟩
  have counts : CountersBounded t → LineCounts l := fun h => k.counts ⟨h.lineErrors, h.misses⟩
  h.trans
    { buffers := fun h => { h with broadcasts := (buffers h).1, polls := (buffers h).2 }
      counters := fun h => { h with lineErrors := (counts h).1, misses := (counts h).2 }
      role := k.role, line := k.waits
      tracks := tracks_of (line := k.fault) }

/-! ### The handset logic -/

/-- What an update of the handset logic has to show. -/
structure HandsetKeeps (o : List Open) (t : State) (x : Handset) : Prop where
  digits : BuffersBounded t → x.entry.length ≤ 3 := by exact fun h => h.digits
  entry : .entry ∉ o → EntryTimed t.handset → EntryTimed x := by exact fun _ => id
  hold : HoldTimed t.handset → HoldTimed x := by exact id

theorem Keeps.of_handset {x : Handset} (h : Keeps o s t) (k : HandsetKeeps o t x) : Keeps o s { t with handset := x } :=
  h.trans
    { buffers := fun h => { h with digits := k.digits h }
      entry := k.entry, hold := k.hold
      tracks := tracks_of }

/-! ### The show log -/

/-- What an update of the log that clears no flag has to show. -/
structure LogKeeps (t : State) (g : ShowLog) : Prop where
  numbers : LogSequential t → LogSequential { t with log := g } := by exact fun h => ⟨h.size, h.numbers⟩
  lost : t.log.lost ≤ 255 → g.lost ≤ 255 := by exact id
  flags : ∀ f, flagOn t f = true → flagOn { t with log := g } f = true := by exact fun _ => id

theorem Keeps.of_log {g : ShowLog} (h : Keeps o s t) (k : LogKeeps t g) : Keeps o s { t with log := g } :=
  h.trans
    { log := k.numbers, flags := k.flags
      counters := fun h => { h with lost := k.lost h.lost }
      tracks := tracks_of }

/-! ### The memory path -/

/-- The canonical form of the memory path's stores. -/
structure PathCanonical (x : Path) : Prop where
  header : captureWf x.header = true
  program : captureWf x.program = true
  mirror : captureWf x.mirror = true
  settings : Memory.wf x.settings = true
  txn : ∀ t, x.txn = some t → txnWf t = true

/-- What an update of the memory path has to show. -/
structure PathKeeps (o : List Open) (t : State) (x : Path) : Prop where
  map : MapSound t → MapSound { t with path := x } := by exact fun h => ⟨h.count, h.fits, h.apart, h.pointer⟩
  fault : .flag .mapFault ∉ o → x.map = .mapFault → t.path.map = .mapFault ∨ flagOn t .mapFault = true := by
    exact fun _ => .inl
  stores : PathCanonical t.path → PathCanonical x := by exact fun h => ⟨h.header, h.program, h.mirror, h.settings, h.txn⟩
  counts : t.path.declined ≤ 255 ∧ t.path.partialLive ≤ 255 → x.declined ≤ 255 ∧ x.partialLive ≤ 255 := by exact id
  role : .role ∉ o → RoleAgrees t → RoleAgrees { t with path := x } := by exact fun _ h => ⟨h.role, h.state⟩

theorem Keeps.of_path {x : Path} (h : Keeps o s t) (k : PathKeeps o t x) (later : .path ∈ o := by simp) :
    Keeps o s { t with path := x } :=
  have stores : StoresCanonical t → PathCanonical x := fun h => k.stores ⟨h.header, h.program, h.mirror, h.settings, h.txn⟩
  have counts : CountersBounded t → x.declined ≤ 255 ∧ x.partialLive ≤ 255 := fun h => k.counts ⟨h.declined, h.partialLive⟩
  h.trans
    { path := fun n => absurd later n
      map := k.map, role := k.role
      stores := fun h =>
        ⟨(stores h).header, (stores h).program, (stores h).mirror, (stores h).settings, h.slots, (stores h).txn⟩
      counters := fun h => { h with declined := (counts h).1, partialLive := (counts h).2 }
      tracks := tracks_of (map := k.fault) }

end Sys2Proof.Machine
end

section
/-! PROOFS. The shared operations of the log, the deck and the lamp's ramp record keep every invariant. -/

namespace Sys2Proof.Machine

set_option Elab.async false

variable {o : List Open} {s t : State}

/-! ### The log (R202, R204) -/

/-- The numbers of a log, entry by entry: the last has the number before the next. -/
theorem numbers_iff (ring : List LogEntry) (next : Word) :
    ring.map LogEntry.sequence = (List.range ring.length).map (fun i => next - BitVec.ofNat 16 (ring.length - i)) ↔
      ∀ i e, ring[i]? = some e → e.sequence = next - BitVec.ofNat 16 (ring.length - i) := by
  constructor
  · intro h i e hi
    obtain ⟨lt, rfl⟩ := List.getElem?_eq_some_iff.mp hi
    simpa [lt] using congrArg (·[i]?) h
  · intro h
    refine List.ext_getElem (by simp) fun i h₁ h₂ => ?_
    simpa using h i _ (List.getElem?_eq_getElem (by simpa using h₁))

/-- A number that stands `n` before the next stands `n + 1` before the one after it. -/
theorem number_succ (next : Word) (n : Nat) : next - BitVec.ofNat 16 n = next + 1 - BitVec.ofNat 16 (n + 1) := by
  rw [BitVec.ofNat_add]
  exact (add_sub_add_right_eq_sub next (BitVec.ofNat 16 n) 1#16).symm

/-- An entry with the next number goes to the tail of what is left of the log (R202, R204). -/
theorem numbers_push {ring : List LogEntry} {next : Word} {e : LogEntry} (d : Nat)
    (h : ∀ i x, ring[i]? = some x → x.sequence = next - BitVec.ofNat 16 (ring.length - i)) (he : e.sequence = next) :
    ∀ i x, (ring.drop d ++ [e])[i]? = some x →
      x.sequence = next + 1 - BitVec.ofNat 16 ((ring.drop d ++ [e]).length - i) := by
  intro i x hi
  have len : (ring.drop d ++ [e]).length = ring.length - d + 1 := by simp
  rw [len]
  by_cases lt : i < ring.length - d
  · rw [List.getElem?_append_left (by simpa using lt), List.getElem?_drop] at hi
    rw [h _ _ hi, number_succ]
    congr 2
    omega
  · rw [List.getElem?_append_right (by simpa using lt)] at hi
    have : i - (ring.drop d).length = 0 := by
      have := (List.getElem?_eq_some_iff.mp hi).1
      simp only [List.length_singleton] at this
      omega
    rw [this] at hi
    simp only [List.length_drop] at this
    obtain rfl : e = x := by simpa using hi
    rw [he, show ring.length - d + 1 - i = 0 + 1 by omega, ← number_succ]
    simp

theorem post_keeps (k : LogKind) (src : LogSource) (cueNo : Word) (slot : Byte) (d1 d2 : Nat) (h : Keeps o s t) :
    Keeps o s (post k src cueNo slot d1 d2 t) := by
  unfold post
  dsimp only
  split
  · refine h.of_log { numbers := fun g => ?_ }
    refine ⟨by simp; omega, (numbers_iff _ _).mpr ?_⟩
    simpa using numbers_push 0 ((numbers_iff _ _).mp g.numbers) rfl
  · refine h.of_log { numbers := fun g => ?_, lost := fun _ => satInc_le _ _, flags := fun f hf => ?_ }
    · exact ⟨by have := g.size; simp; omega, (numbers_iff _ _).mpr (numbers_push _ ((numbers_iff _ _).mp g.numbers) rfl)⟩
    · simp only [flagOn, BitVec.getLsbD_or, Bool.or_eq_true] at hf ⊢
      exact .inl hf

theorem postGate_keeps (k : LogKind) (src : LogSource) (cueNo : Word) (d1 d2 : Nat) (h : Keeps o s t) :
    Keeps o s (postGate k src cueNo d1 d2 t) := post_keeps _ _ _ _ _ _ h

theorem setFlag_keeps (f : FaultFlag) (h : Keeps o s t) : Keeps o s (setFlag f t) :=
  h.of_log
    { numbers := fun g => ⟨g.size, g.numbers⟩
      flags := fun g hg => (setFlag_flagOn f g t).trans (by simp [hg]) }

/-- A flag just set is set. -/
@[simp] theorem flagOn_setFlag_self (f : FaultFlag) (s : State) : flagOn (setFlag f s) f = true := by
  simp [setFlag_flagOn]

/-! ### The deck's modes (R103 to R106) -/

/-- The waits of the deck and the cue track, but for that of BRAKING. -/
structure DeckRuns (s : State) : Prop where
  request : s.deck.pending ≠ some (.mode .braking)
  watch : s.deck.mode.moving = true → s.deck.endWatch.isSome = true
  second : s.deck.mode = .play ∨ s.deck.mode = .record → s.deck.second.due.isSome = true
  cells : s.deck.mode = .record ↔ s.writer.cellTimer.isSome = true
  decoder : s.deck.mode = .play ↔ s.decoder.state ≠ .off
  pass : s.decoder.state ≠ .off → s.decoder.passTimer.isSome = true

/-- A brake timer runs and something waits for its end. -/
def BrakeSet (d : Deck) : Prop := d.brakeTimer.isSome = true ∧ d.pending.isSome = true

theorem DeckTimed.runs (h : DeckTimed s) : DeckRuns s := ⟨h.request, h.watch, h.second, h.cells, h.decoder, h.pass⟩

theorem DeckRuns.timed (h : DeckRuns s) (b : s.deck.mode = .braking → BrakeSet s.deck) : DeckTimed s :=
  ⟨b, h.request, h.watch, h.second, h.cells, h.decoder, h.pass⟩

@[simp] theorem resumeTimer_due (now : Nat) (p : PauseTimer) : (resumeTimer now p).due.isSome = true := by
  unfold resumeTimer
  split
  · rename_i h; simp [h]
  · rfl

theorem setDeckMode_runs (m : DeckMode) (h : DeckRuns s) : DeckRuns (setDeckMode m s) := by
  unfold setDeckMode
  split
  · exact h
  · rename_i ne
    refine ⟨h.request, fun hm => ?_, fun hm => ?_, ?_, ?_, fun hd => ?_⟩
    · simp only at hm
      simp [hm, startTimer]
    · simp only at hm
      rcases hm with rfl | rfl <;> simp [secondFor]
    · have := h.cells
      simp only [writerFor, beginCell, pauseWriter]
      split
      · simp_all
      · split
        · simp_all
        · simp_all
    · have := h.decoder
      simp only [decoderFor, decoderPlay, decoderOff, enterHunt]
      split
      · simp_all
      · split
        · simp_all
        · simp_all
    · have := h.pass
      simp only [decoderFor, decoderPlay, decoderOff, enterHunt] at hd ⊢
      split
      · simp
      · split
        · simp_all
        · simp_all

@[simp] theorem setDeckMode_brake (m : DeckMode) (s : State) :
    (setDeckMode m s).deck.brakeTimer = s.deck.brakeTimer ∧ (setDeckMode m s).deck.pending = s.deck.pending ∧
      (setDeckMode m s).deck.locate = s.deck.locate := by
  unfold setDeckMode
  split <;> simp

/-- A new mode leaves what the writer holds (R106). -/
@[simp] theorem writerFor_slots (now : Nat) (old m : DeckMode) (w : Writer) :
    (writerFor now old m w).slots = w.slots ∧ (writerFor now old m w).pointer = w.pointer ∧
      (writerFor now old m w).sequence = w.sequence := by
  unfold writerFor beginCell pauseWriter passMiddle
  (repeat' split) <;> simp

/-- What a new mode makes of the decoder stays in range (R106). -/
theorem decoderFor_inRange (now : Nat) (old m : DeckMode) {d : Decoder} (h : DecoderInRange d) :
    DecoderInRange (decoderFor now old m d) := by
  unfold decoderFor
  split
  · exact ⟨h.edges, by simp [decoderPlay, enterHunt], by simp [decoderPlay, enterHunt]⟩
  · split
    · exact ⟨by simp [decoderOff], by simp [decoderOff], by simp [decoderOff]⟩
    · exact h

/-- The counts and the cell estimate outlast a change of the mode (R106). -/
@[simp] theorem decoderFor_counts (now : Nat) (old m : DeckMode) (d : Decoder) :
    (decoderFor now old m d).errors = d.errors ∧ (decoderFor now old m d).overflows = d.overflows ∧
      (decoderFor now old m d).cell = d.cell := by
  unfold decoderFor decoderPlay decoderOff enterHunt
  (repeat' split) <;> simp

theorem decoderFor_cell (now : Nat) (old m : DeckMode) (h : CellBounded t) :
    CellBounded { t with decoder := decoderFor now old m t.decoder } := by
  obtain ⟨cell, run, sum⟩ := h
  unfold decoderFor decoderPlay decoderOff enterHunt
  (repeat' split) <;> exact ⟨cell, by simp [run], by simp [sum]⟩

theorem setDeckMode_keeps (m : DeckMode) (h : Keeps o s t) (hb : .deck ∉ o → m = .braking → BrakeSet t.deck) :
    Keeps o s (setDeckMode m t) := by
  have timed : .deck ∉ o → DeckTimed t → DeckTimed (setDeckMode m t) := fun n g =>
    (setDeckMode_runs m g.runs).timed fun hm => by
      have := hb n (by simpa using hm)
      simpa [BrakeSet] using this
  unfold setDeckMode at timed ⊢
  split
  · exact h
  · rename_i ne
    simp only [if_neg ne] at timed
    refine h.of_tape
      { tape := fun g => ⟨g.1, fun x hx => ?_⟩, decoder := decoderFor_inRange _ _ _, errors := by simp, overflows := by simp
        cell := decoderFor_cell _ _ _, sorted := by simp, clear := fun g => ?_, sequence := by simp, timed := timed }
    · simp only at hx
      split at hx
      · simp at hx
      · exact g.2 x hx
    · exact ⟨by simpa using g.pointer, by simpa using g.sorted, by simpa using g.clear⟩

/-- A mode that is not BRAKING can be entered at any moment (R106). -/
theorem setDeckMode_keeps' {m : DeckMode} (hm : m ≠ .braking) (h : Keeps o s t) : Keeps o s (setDeckMode m t) :=
  setDeckMode_keeps m h fun _ e => absurd e hm

theorem startBraking_keeps {p : PendingMode} (hp : p ≠ .mode .braking) (h : Keeps o s t) : Keeps o s (startBraking p t) :=
  setDeckMode_keeps _
    (h.of_tape { timed := fun _ g => ⟨fun _ => ⟨rfl, rfl⟩, by simpa using hp, g.watch, g.second, g.cells, g.decoder, g.pass⟩ })
    fun _ _ => ⟨rfl, rfl⟩

/-- Nothing waits on the locate record. -/
theorem Keeps.of_locate (h : Keeps o s t) (c : Option Int) : Keeps o s { t with deck := { t.deck with locate := c } } :=
  h.of_tape {}

theorem Keeps.of_pending {p : PendingMode} (hp : p ≠ .mode .braking) (h : Keeps o s t) :
    Keeps o s { t with deck := { t.deck with pending := some p } } :=
  h.of_tape { timed := fun _ g =>
    ⟨fun m => ⟨(g.brake m).1, rfl⟩, by simpa using hp, g.watch, g.second, g.cells, g.decoder, g.pass⟩ }

theorem deckRequest_keeps {m : DeckMode} (hm : m ≠ .braking) (h : Keeps o s t) : Keeps o s (deckRequest m t) := by
  unfold deckRequest
  dsimp only
  split
  · split
    · exact setDeckMode_keeps' hm (h.of_locate none)
    · exact h.of_locate none
  · exact (h.of_locate none).of_pending (p := .mode m) (by simpa using hm)
  · split
    · exact h.of_locate none
    · exact startBraking_keeps (by simpa using hm) (h.of_locate none)

theorem resolveLocate_keeps (h : Keeps o s t) : Keeps o s (resolveLocate t) := by
  unfold resolveLocate
  split
  · exact setDeckMode_keeps' (by decide) h
  · split
    · exact setDeckMode_keeps' (by decide) h
    · split
      · exact setDeckMode_keeps' (by decide) h
      · exact setDeckMode_keeps' (by decide) (h.of_locate none)

theorem deckLocate_keeps (c : Int) (h : Keeps o s t) : Keeps o s (deckLocate c t) := by
  unfold deckLocate
  dsimp only
  split
  · exact resolveLocate_keeps (h.of_locate _)
  · exact (h.of_locate (some c)).of_pending (p := .locate) (by decide)
  · exact startBraking_keeps (by decide) (h.of_locate _)

theorem setCounter_keeps {v : Int} (hv : -2147483648 ≤ v ∧ v ≤ 2147483647) (h : Keeps o s t) :
    Keeps o s (setCounter v t) := by
  have counted : Keeps o s { t with deck := { t.deck with counter := v } } := h.of_tape { tape := fun g => ⟨hv, g.2⟩ }
  unfold setCounter
  dsimp only
  split
  · exact startBraking_keeps (by decide) (counted.of_locate none)
  · exact counted

/-! ### The program-audio fader (R112, R113) -/

theorem audioRamp_keeps (target n : Nat) (h : Keeps o s t) : Keeps o s (audioRamp target n t) :=
  h.of_tape { audio := fun g => ⟨g.1, g.1, Nat.min_le_left _ _⟩ }

theorem setAudio_keeps {level : Nat} (hl : level ≤ 63) (h : Keeps o s t) : Keeps o s (setAudio level t) :=
  h.of_tape { audio := fun g => ⟨hl, g.2⟩ }

theorem fadeAudioOut_keeps (h : Keeps o s t) : Keeps o s (fadeAudioOut t) := audioRamp_keeps _ _ h

/-! ### Placing a frame (R135 to R137) -/

/-- A character takes ten cells (R134). -/
@[simp] theorem charCells_length (c : Byte) : (charCells c).length = 10 := by simp [charCells, charBits]

/-- A frame takes the slots its kind has in Table 6-2. -/
theorem frameCells_length (kind sequence : Nat) (data : Word) :
    (frameCells kind sequence data).length = frameLength kind := by
  unfold frameCells copyCells frameChars frameLength
  split <;> simp [wordBytes]

/-- A place found lies at offsets 8..247 (R136, R137). -/
theorem findPlace_within {w : Writer} {n d : Nat} {offset : Option Nat} (hn : n ≤ 240) (h : findPlace w n offset = .ok d) :
    8 ≤ d ∧ d + n ≤ 248 := by
  unfold findPlace at h
  split at h
  · split at h
    · cases h
    · split at h
      · cases h; omega
      · cases h
  · split at h
    · rename_i d' hd
      cases h
      have range : ∀ (fuel e : Nat), firstFit w n e fuel = some d → e ≤ d ∧ d < e + fuel := by
        intro fuel
        induction fuel with
        | zero => simp [firstFit]
        | succ fuel ih =>
          intro e
          simp only [firstFit]
          split
          · simp only [Option.some.injEq]; omega
          · intro h; have := ih _ h; omega
      have := range _ _ hd
      omega
    · cases h

/-- Every slot of a store with rising keys stands in the list its key reads from. -/
theorem assocGet_isSome_of_mem {α : Type} {m : Assoc α} {c : Nat × α} (h : c ∈ m) : (assocGet m c.1).isSome = true := by
  induction m with
  | nil => cases h
  | cons x m ih =>
    obtain ⟨i, v⟩ := x
    simp only [assocGet]
    split
    · rfl
    · rcases List.mem_cons.mp h with rfl | h
      · contradiction
      · exact ih h

/-- A listed slot after cells are laid is one of those the cells went to, or was listed before (R135). -/
theorem mem_layCells {w : Writer} {d : Nat} {cs : List Symbol} {c : Nat × Symbol} (h : c ∈ (layCells w d cs).slots) :
    (∃ i, i < cs.length ∧ c.1 = (w.pointer + (d + i)) % 256) ∨ c ∈ w.slots := by
  have mem_set : ∀ {m : Assoc Symbol} {k : Nat} {v : Symbol} {x : Nat × Symbol}, x ∈ assocSet m k v → x = (k, v) ∨ x ∈ m := by
    intro m k v x
    induction m with
    | nil => simp [assocSet]
    | cons y m ih =>
      simp only [assocSet]
      split
      · simp
      · split
        · simp only [List.mem_cons]; tauto
        · simp only [List.mem_cons]; tauto
  induction cs generalizing w d with
  | nil => exact .inr h
  | cons s cs ih =>
    rcases ih h with ⟨i, hi, e⟩ | hm
    · exact .inl ⟨i + 1, by simpa using hi, by rw [e]; congr 1; simp only; omega⟩
    · rcases mem_set hm with rfl | hm
      · exact .inl ⟨0, by simp, rfl⟩
      · exact .inr hm

theorem placeFrame_keeps (src : CueSource) (kind : Nat) (data : Word) (offset : Option Nat) (h : Keeps o s t) :
    Keeps o s (placeFrame src kind data offset t).1 := by
  unfold placeFrame
  split
  · exact h
  · split
    · exact h
    · rename_i d hd
      have within := findPlace_within (by unfold frameLength; split <;> omega) hd
      obtain ⟨pointer, sequence, syncRun, level, timer⟩ := layCells_frame t.writer d (frameCells kind t.writer.sequence data)
      refine postGate_keeps _ _ _ _ _ (h.of_tape
        { sorted := layCells_sorted _ _ _, clear := fun g => ?_, sequence := fun _ => by simp only; omega
          timed := fun _ g => ?_ })
      · refine ⟨by simpa only [pointer] using g.pointer, layCells_sorted _ _ _ g.sorted, fun c hc => ?_⟩
        simp only [pointer]
        rcases mem_layCells hc with ⟨i, hi, e⟩ | hm
        · rw [frameCells_length] at hi
          have := g.pointer
          omega
        · exact g.clear c hm
      · exact ⟨g.brake, g.request, g.watch, g.second, by simpa only [timer] using g.cells, g.decoder, g.pass⟩

/-! ### The lamp's ramp record (R64) -/

theorem setRamp_keeps (target n : Nat) (req : Requester) (h : Keeps o s t) : Keeps o s (setRamp target n req t) :=
  h.of_lamp { levels := fun g => ⟨g.level, g.level, Nat.min_le_left _ _⟩ }

theorem engineRampUnowned_keeps (target n : Nat) (h : Keeps o s t) : Keeps o s (engineRampUnowned target n t) := by
  unfold engineRampUnowned
  split
  · exact h
  · exact setRamp_keeps _ _ _ h

end Sys2Proof.Machine
end

section
/-! PROOFS. The shared operations of the line, the cue engine and the power unit keep every invariant. -/

namespace Sys2Proof.Machine

set_option Elab.async false

variable {o : List Open} {s t : State}

/-! ### The lead's choice of frame (R155) -/

theorem sendFrame_keeps (m : LineMsg) (idle : t.line.state = .idle) (h : Keeps o s t) : Keeps o s (sendFrame m t) :=
  h.of_line
    { role := fun _ g => ⟨g.role, by simpa [idle] using g.state⟩
      waits := fun _ g =>
        ⟨nofun, nofun, nofun, fun _ => rfl, nofun, nofun, fun _ _ => g.up (by rw [idle]; rfl) (by simp [idle])⟩
      fault := fun _ => nofun }

theorem sendSync_keeps (idle : t.line.state = .idle) (h : Keeps o s t) : Keeps o s (sendSync t) :=
  (sendFrame_keeps _ idle h).of_line {}

theorem chooseFrame_keeps (h : Keeps o s t) : Keeps o s (chooseFrame t) := by
  by_cases idle : t.line.state = .idle
  · rcases chooseFrame_cases t with e | ⟨m, rest, -, e⟩ | ⟨-, -, e⟩ | ⟨n, ns, -, -, -, e⟩ <;> rw [e]
    · exact h
    · exact sendFrame_keeps m idle h
    · exact sendSync_keeps idle h
    · exact sendFrame_keeps _ idle h
  · simpa [chooseFrame, idle] using h

/-- The lead of a line that is up enters IDLE (R155). -/
theorem enterIdle_keeps (lead : t.line.state ≠ .listening)
    (up : LineWaits t.line → t.line.noAnswer.isSome = true ∧ t.line.pollPeriod.isSome = true) (h : Keeps o s t) :
    Keeps o s (enterIdle t) :=
  chooseFrame_keeps (h.of_line
    { role := fun _ g => ⟨g.role, by simpa [lead] using g.state⟩
      waits := fun _ g => ⟨nofun, nofun, nofun, nofun, nofun, nofun, fun _ _ => up g⟩
      fault := fun _ => nofun })

/-! ### The broadcast queue (R156) -/

theorem postDropped_keeps (m : LineMsg) (why : Nat) (h : Keeps o s t) : Keeps o s (postDropped m why t) :=
  postGate_keeps _ _ _ _ _ h

theorem postBroadcast_keeps (m : LineMsg) (h : Keeps o s t) : Keeps o s (postBroadcast m t) := by
  unfold postBroadcast
  split
  · exact postDropped_keeps _ _ h
  · split
    · exact chooseFrame_keeps (h.of_line { buffers := fun g => ⟨by simp; omega, g.2⟩ })
    · exact postDropped_keeps _ _ h

theorem postAllDropped_keeps (ms : List LineMsg) (h : Keeps o s t) : Keeps o s (postAllDropped ms t) := by
  induction ms generalizing t with
  | nil => exact h
  | cons m ms ih => exact ih (postDropped_keeps m 2 h)

theorem dropBroadcasts_keeps (h : Keeps o s t) : Keeps o s (dropBroadcasts t) :=
  postAllDropped_keeps _ (h.of_line { buffers := fun g => ⟨Nat.zero_le _, g.2⟩ })

theorem announce_keeps (m : LineMsg) (h : Keeps o s t) : Keeps o s (announce m t) := by
  unfold announce
  split
  · exact postBroadcast_keeps m h
  · exact h

/-! ### The station table (R160) -/

theorem stationLost_keeps (n : Nat) (st : Station) (h : Keeps o s t) : Keeps o s (stationLost n st t) :=
  setFlag_keeps _ (postGate_keeps _ _ _ _ _ h)

/-- A new station record changes that record alone. -/
theorem setStation_frame (l : Line) (n : Nat) (st : Station) :
    (setStation l n st).role = l.role ∧ (setStation l n st).state = l.state ∧ (setStation l n st).queue = l.queue ∧
      (setStation l n st).pollList = l.pollList ∧ (setStation l n st).errors = l.errors ∧
      (setStation l n st).noAnswer = l.noAnswer ∧ (setStation l n st).pollPeriod = l.pollPeriod ∧
      (setStation l n st).current = l.current ∧ (setStation l n st).badFrame = l.badFrame ∧
      (LineWaits l → LineWaits (setStation l n st)) := by
  unfold setStation
  split <;> exact ⟨rfl, rfl, rfl, rfl, rfl, rfl, rfl, rfl, rfl, fun g => ⟨g.1, g.2, g.3, g.4, g.5, g.6, g.7⟩⟩

theorem setStation_counts {l : Line} (n : Nat) {st : Station} (hm : st.misses ≤ 255) (g : LineCounts l) :
    LineCounts (setStation l n st) := by
  obtain ⟨e, h0, h1, h2, h3⟩ := g
  unfold setStation
  split
  · exact ⟨e, hm, h1, h2, h3⟩
  · exact ⟨e, h0, hm, h2, h3⟩
  · exact ⟨e, h0, h1, hm, h3⟩
  · exact ⟨e, h0, h1, h2, hm⟩

theorem Keeps.of_station (h : Keeps o s t) (n : Nat) {st : Station} (hm : st.misses ≤ 255) :
    Keeps o s { t with line := setStation t.line n st } := by
  obtain ⟨role, state, queue, polls, errors, -, -, -, -, waits⟩ := setStation_frame t.line n st
  exact h.of_line
    { buffers := fun g => by rw [LineInRange, queue, polls]; exact g
      counts := setStation_counts n hm
      role := fun _ g => ⟨role.trans g.role, by simpa only [role, state] using g.state⟩
      waits := fun _ => waits
      fault := fun _ e => .inl (state ▸ e) }

theorem dropStation_keeps (n : Nat) (h : Keeps o s t) : Keeps o s (dropStation n t) := by
  unfold dropStation
  dsimp only
  split
  · exact stationLost_keeps _ _ (h.of_station n (Nat.zero_le _))
  · exact h.of_station n (Nat.zero_le _)

theorem dropStations_keeps (h : Keeps o s t) : Keeps o s (dropStations t) :=
  dropStation_keeps _ (dropStation_keeps _ (dropStation_keeps _ (dropStation_keeps _ h)))

theorem lineWithoutFollowers_keeps (h : Keeps o s t) : Keeps o s (lineWithoutFollowers t) :=
  dropBroadcasts_keeps (dropStations_keeps h)

/-! ### The poll list, and bringing the line up (R146, R147, R158) -/

theorem fillPolls_keeps (h : Keeps o s t) : Keeps o s (fillPolls t) := by
  unfold fillPolls
  split
  · exact h
  · split
    · exact h.of_line { buffers := fun g => ⟨g.1, by simp⟩ }
    · exact h.of_line { buffers := fun g => ⟨g.1, by simp⟩ }

/-- Filling the poll list leaves the line's state and timers (R158). -/
@[simp] theorem fillPolls_line (s : State) :
    (fillPolls s).line.state = s.line.state ∧ (fillPolls s).line.noAnswer = s.line.noAnswer ∧
      (fillPolls s).line.pollPeriod = s.line.pollPeriod := by
  unfold fillPolls
  (repeat' split) <;> simp

theorem startLine_keeps (powering : t.line.state = .powering) (h : Keeps o s t) : Keeps o s (startLine t) := by
  unfold startLine
  refine Keeps.closes (x := .line) (enterIdle_keeps (by simp [powering]) (fun _ => by simp [startTimer])
    (fillPolls_keeps ((h.opens .line).of_line
      { buffers := fun g => ⟨g.1, by simp⟩, waits := fun n => absurd (List.mem_cons_self) n }))) ?_
  exact fun _ _ => (chooseFrame_keeps (Keeps.refl [] _)).line (by simp)
    ⟨nofun, nofun, nofun, nofun, nofun, nofun, fun _ _ => by simp [startTimer]⟩

theorem enterPowering_keeps (lead : t.line.state ≠ .listening) (h : Keeps o s t) : Keeps o s (enterPowering t) :=
  h.of_line
    { role := fun _ g => ⟨g.role, by simpa [lead] using g.state⟩
      waits := fun _ _ => ⟨nofun, nofun, fun _ => rfl, nofun, nofun, nofun, fun _ n => absurd rfl n⟩
      fault := fun _ => nofun }

theorem enterDetect_keeps (lead : t.line.state ≠ .listening) (h : Keeps o s t) : Keeps o s (enterDetect t) :=
  h.of_line
    { role := fun _ g => ⟨g.role, by simpa [lead] using g.state⟩
      waits := fun _ _ => ⟨nofun, fun _ => rfl, nofun, nofun, nofun, nofun, nofun⟩
      fault := fun _ => nofun }

/-! ### The cue engine's queue and run state (R5 to R9) -/

theorem Keeps.of_pointer (h : Keeps o s t) {p : Nat} (hp : p ≤ entriesInForce t) :
    Keeps o s { t with engine := { t.engine with pointer := p } } := h.of_engine { pointer := fun _ => hp }

theorem limitPointer_keeps (h : Keeps o s t) : Keeps o s (limitPointer t) := h.of_pointer (Nat.min_le_right _ _)

theorem postCuesDropped_keeps (cs : List Cue) (h : Keeps o s t) : Keeps o s (postCuesDropped cs t) := by
  induction cs generalizing t with
  | nil => exact h
  | cons c cs ih => exact ih (postGate_keeps _ _ _ _ _ h)

theorem clearQueue_keeps (h : Keeps o s t) : Keeps o s (clearQueue t) :=
  postCuesDropped_keeps _ (h.of_engine { queue := fun _ => Nat.zero_le _ })

theorem postCue_keeps (src : CueSource) (k : CueKind) (start : Option Clock32) (h : Keeps o s t) :
    Keeps o s (postCue src k start t).1 := by
  rcases postCue_cases src k start t with ⟨-, -, e⟩ | ⟨room, e⟩ | ⟨-, e⟩ <;> rw [e]
  · exact h
  · exact h.of_engine { queue := fun _ => by simp; omega }
  · exact postGate_keeps _ _ _ _ _ h

theorem setRunState_keeps (r : RunState) (h : Keeps o s t) : Keeps o s (setRunState r t) := h.of_engine {}

/-! ### The executing cue (Table 1-6, R19 to R25) -/

/-- What `CycleOwned` says of the executing cue by itself (R6, R18, R20). -/
structure CueSound (e : Executing) : Prop where
  phases : e.cycle = true → e.phase = .changing ∨ e.phase = .fadingIn
  changing : e.phase = .changing → e.cycle = true
  stopping : e.stopping = true → e.cycle = true

theorem CycleOwned.sound (h : CycleOwned s) {e : Executing} (he : s.engine.cue = some e) : CueSound e :=
  ⟨h.phases e he, h.changing e he, h.stopping e he⟩

/-- With no executing cue the cycle is owned when none is in flight. -/
theorem cycleOwned_of_none (he : s.engine.cue = none) (hc : s.transport.state ≠ .cycling) : CycleOwned s :=
  ⟨⟨fun h => absurd h hc, fun ⟨e, h, _⟩ => by simp [he] at h⟩, fun e h => by simp [he] at h, fun e h => by simp [he] at h,
    fun e h => by simp [he] at h⟩

/-- With an executing cue the cycle is owned when it is in flight exactly as the cue says. -/
theorem cycleOwned_of_some {e : Executing} (he : s.engine.cue = some e) (hs : CueSound e)
    (hc : s.transport.state = .cycling ↔ e.cycle = true) : CycleOwned s := by
  have same : ∀ {x}, s.engine.cue = some x → x = e := fun h => Option.some.inj (h.symm.trans he)
  exact ⟨hc.trans ⟨fun h => ⟨e, he, h⟩, fun ⟨x, hx, h⟩ => same hx ▸ h⟩, fun x hx => same hx ▸ hs.phases,
    fun x hx => same hx ▸ hs.changing, fun x hx => same hx ▸ hs.stopping⟩

theorem CycleOwned.cycling_iff (h : CycleOwned s) {e : Executing} (he : s.engine.cue = some e) :
    s.transport.state = .cycling ↔ e.cycle = true :=
  h.own.trans ⟨fun ⟨_, hx, c⟩ => Option.some.inj (hx.symm.trans he) ▸ c, fun c => ⟨e, he, c⟩⟩

/-- The executing cue becomes `c`, whose ownership is shown elsewhere. -/
theorem Keeps.of_cue (h : Keeps o s t) (c : Option Executing) (mem : .owned ∈ o) :
    Keeps o s { t with engine := { t.engine with cue := c } } := h.of_engine { owned := fun n => absurd mem n }

/-- The executing cue becomes `e`, as sound as it was and with its cycle as it was. -/
theorem Keeps.of_cue_some (h : Keeps o s t) {e : Executing}
    (sound : .owned ∉ o → CycleOwned t → CueSound e ∧ (t.transport.state = .cycling ↔ e.cycle = true)) :
    Keeps o s { t with engine := { t.engine with cue := some e } } :=
  h.of_engine { owned := fun n g => cycleOwned_of_some rfl (sound n g).1 (sound n g).2 }

theorem noExecuting_keeps (out : .owned ∉ o → CycleOwned t → t.transport.state ≠ .cycling) (h : Keeps o s t) :
    Keeps o s (noExecuting t) :=
  h.of_engine { owned := fun n g => cycleOwned_of_none rfl (out n g) }

theorem completeCue_keeps (e : Executing) (out : .owned ∉ o → CycleOwned t → t.transport.state ≠ .cycling)
    (h : Keeps o s t) : Keeps o s (completeCue e t) :=
  noExecuting_keeps (fun n g => by
      have same : CycleOwned t := by
        refine ⟨?_, ?_, ?_, ?_⟩
        · simpa using g.own
        · simpa using g.phases
        · simpa using g.changing
        · simpa using g.stopping
      simpa using out n same)
    (postGate_keeps _ _ _ _ _ h)

theorem postExecutingDropped_keeps (e : Executing) (phase : Nat) (h : Keeps o s t) :
    Keeps o s (postExecutingDropped e phase t) := postGate_keeps _ _ _ _ _ h

theorem finishStopping_keeps (out : .owned ∉ o → CycleOwned t → t.transport.state ≠ .cycling) (h : Keeps o s t) :
    Keeps o s (finishStopping t) := by
  unfold finishStopping
  dsimp only
  split
  · exact noExecuting_keeps out h
  · exact engineRampUnowned_keeps _ _ (noExecuting_keeps out h)

theorem stopAgain_keeps (e : Executing) (h : Keeps o s t) : Keeps o s (stopAgain e t) := by
  unfold stopAgain
  split
  · exact engineRampUnowned_keeps _ _ h
  · exact h

/-- The lamp's share of a STOP leaves the lamp but for its ramp record (R61). -/
@[simp] theorem engineRampUnowned_lamp (target n : Nat) (s : State) :
    (engineRampUnowned target n s).lamp.state = s.lamp.state ∧ (engineRampUnowned target n s).lamp.duty = s.lamp.duty ∧
      (engineRampUnowned target n s).lamp.goingOff = s.lamp.goingOff := by
  unfold engineRampUnowned
  split <;> simp

theorem stopExecuting_keeps (h : Keeps o s t) : Keeps o s (stopExecuting t) := by
  refine Keeps.closes (x := .owned) ?_ fun n g => ?_
  · have mem : ∀ {u}, .owned ∉ Open.owned :: o → CycleOwned u → u.transport.state ≠ .cycling :=
      fun n => absurd List.mem_cons_self n
    replace h := h.opens .owned
    unfold stopExecuting
    split
    · exact h
    · rename_i e he
      have logged := postExecutingDropped_keeps e e.phase.code h
      have faded := engineRampUnowned_keeps 0 (stopFade t.path.settings) logged
      dsimp only
      split
      · exact stopAgain_keeps _ h
      · split
        · exact noExecuting_keeps mem logged
        · exact noExecuting_keeps mem faded
        · exact logged.of_cue _ List.mem_cons_self
        · split
          · exact faded.of_cue _ List.mem_cons_self
          · exact noExecuting_keeps mem faded
  · have own := h.owned n g
    cases he : t.engine.cue with
    | none =>
      have same : (stopExecuting t).engine.cue = none := by simp [stopExecuting_engine, he]
      refine cycleOwned_of_none same ?_
      have := own.own
      simpa [he] using this
    | some e =>
      have sound := own.sound he
      have cycling := own.cycling_iff he
      by_cases st : e.stopping = true
      · exact cycleOwned_of_some (e := e) (by simp [stopExecuting_engine, he, st]) sound (by simpa using cycling)
      · cases hp : e.phase with
        | waiting =>
          refine cycleOwned_of_none (by simp [stopExecuting_engine, he, st, hp]) ?_
          have := sound.phases
          simp only [hp, reduceCtorEq, or_self, imp_false] at this
          simpa [this] using cycling
        | fadingOut =>
          refine cycleOwned_of_none (by simp [stopExecuting_engine, he, st, hp]) ?_
          have := sound.phases
          simp only [hp, reduceCtorEq, or_self, imp_false] at this
          simpa [this] using cycling
        | changing =>
          refine cycleOwned_of_some (e := { e with stopping := true }) (by simp [stopExecuting_engine, he, st, hp])
            ⟨sound.phases, sound.changing, fun _ => sound.changing hp⟩ (by simpa using cycling)
        | fadingIn =>
          by_cases hc : e.cycle = true
          · exact cycleOwned_of_some (e := { e with stopping := true, awaiting := false })
              (by simp [stopExecuting_engine, he, st, hp, hc]) ⟨sound.phases, sound.changing, fun _ => hc⟩
              (by simpa using cycling)
          · exact cycleOwned_of_none (by simp [stopExecuting_engine, he, st, hp, hc]) (by simpa [hc] using cycling)

/-! ### Run-state requests (Table 1-4, R7) -/

theorem audioDefault_le (b : Bytes) : audioDefault b ≤ 63 := Nat.min_le_left _ _

theorem requestStart_keeps (h : Keeps o s t) : Keeps o s (requestStart t).1 := by
  unfold requestStart
  split
  · exact setAudio_keeps (audioDefault_le _) (deckRequest_keeps (by decide) (setRunState_keeps _ h))
  · exact h

theorem requestHold_keeps (h : Keeps o s t) : Keeps o s (requestHold t).1 := by
  unfold requestHold
  split
  · exact announce_keeps _ (deckRequest_keeps (by decide) (setRunState_keeps _ h))
  · exact h

theorem requestResume_keeps (h : Keeps o s t) : Keeps o s (requestResume t).1 := by
  unfold requestResume
  split
  · exact announce_keeps _ (deckRequest_keeps (by decide) (setRunState_keeps _ h))
  · exact h

theorem requestLearn_keeps (h : Keeps o s t) : Keeps o s (requestLearn t).1 := by
  unfold requestLearn
  split
  · exact deckRequest_keeps (by decide) (setRunState_keeps _ h)
  · exact h

theorem requestStop_keeps (h : Keeps o s t) : Keeps o s (requestStop t) :=
  announce_keeps _ (stopExecuting_keeps (fadeAudioOut_keeps (deckRequest_keeps (by decide)
    (clearQueue_keeps (setRunState_keeps _ h)))))

theorem holdShow_keeps (h : Keeps o s t) : Keeps o s (holdShow t) := by
  unfold holdShow
  split
  · exact deckRequest_keeps (by decide) (setRunState_keeps _ h)
  · exact deckRequest_keeps (by decide) (setRunState_keeps _ h)
  · exact h

theorem holdAtTapeEnd_keeps (h : Keeps o s t) : Keeps o s (holdAtTapeEnd t) := by
  unfold holdAtTapeEnd
  split
  · exact setRunState_keeps _ h
  · exact setRunState_keeps _ h
  · exact h

/-! ### The end of a change cycle, as the engine takes it (R20, R25) -/

/-- The executing cue of a cycle that has ended, as the transport leaves it: the cue still says that its cycle is in flight. -/
def CycleOver (t : State) : Prop := t.transport.state ≠ .cycling ∧ ∀ e, t.engine.cue = some e → CueSound e

/-- Holding the show reaches no executing cue (R7). -/
@[simp] theorem holdShow_cue (s : State) : (holdShow s).engine.cue = s.engine.cue := by
  unfold holdShow
  split <;> simp

/-- The executing cue after an abort: gone when the cycle was its own (R25). -/
theorem abortCycle_cue (s : State) :
    (abortCycle s).engine.cue = s.engine.cue.filter (fun e => !e.cycle) := by
  unfold abortCycle
  cases he : s.engine.cue with
  | none => simp [he]
  | some e => cases hc : e.cycle <;> cases hs : e.stopping <;> simp [he, hc, hs, Option.filter]

/-- An abort answers for a cycle that has ended (R25). -/
theorem abortCycle_keeps (ended : .owned ∉ o → CycleOwned s → CycleOver t) (h : Keeps (.owned :: o) s t) :
    Keeps o s (abortCycle t) := by
  have mem : ∀ {u}, .owned ∉ Open.owned :: o → CycleOwned u → u.transport.state ≠ .cycling :=
    fun n => absurd List.mem_cons_self n
  refine Keeps.closes (x := .owned) ?_ fun n g => ?_
  · unfold abortCycle
    refine clearQueue_keeps (holdShow_keeps ?_)
    split
    · split
      · exact h
      · split
        · exact finishStopping_keeps mem h
        · exact noExecuting_keeps mem (postExecutingDropped_keeps _ _ h)
    · exact h
  · obtain ⟨still, sound⟩ := ended n g
    have cue := abortCycle_cue t
    cases he : t.engine.cue with
    | none => exact cycleOwned_of_none (by simp [cue, he]) (by simpa using still)
    | some e =>
      by_cases hc : e.cycle = true
      · exact cycleOwned_of_none (by simp [cue, he, hc]) (by simpa using still)
      · exact cycleOwned_of_some (e := e) (by simp [cue, he, hc]) (sound e he) (by simpa [hc] using still)

/-- A cue enters FADING_IN with its cycle in flight or not, as the transport has it (R20). -/
theorem enterFadingIn_keeps {e : Executing}
    (cycling : .owned ∉ o → CycleOwned s → (t.transport.state = .cycling ↔ e.cycle = true) ∧
      (e.stopping = true → e.cycle = true)) (h : Keeps (.owned :: o) s t) : Keeps o s (enterFadingIn e t) := by
  unfold enterFadingIn
  split
  · split
    · rename_i hc
      refine (h.of_cue _ List.mem_cons_self).closes fun n g => ?_
      exact cycleOwned_of_some rfl ⟨fun _ => .inr rfl, nofun, (cycling n g).2⟩ (cycling n g).1
    · rename_i hc
      refine (completeCue_keeps _ (fun n => absurd List.mem_cons_self n) h).closes fun n g => ?_
      exact cycleOwned_of_none (by simp) (by simpa [hc] using (cycling n g).1)
  · refine setRamp_keeps _ _ _ ((h.of_cue _ List.mem_cons_self).closes fun n g => ?_)
    exact cycleOwned_of_some rfl ⟨fun _ => .inr rfl, nofun, (cycling n g).2⟩ (cycling n g).1

/-- "Cycle done" answers for a cycle that has ended (R20). -/
theorem cycleDone_keeps (seat : Option Clock32) (ended : .owned ∉ o → CycleOwned s → CycleOver t)
    (h : Keeps (.owned :: o) s t) : Keeps o s (cycleDone seat t) := by
  have mem : ∀ {u}, .owned ∉ Open.owned :: o → CycleOwned u → u.transport.state ≠ .cycling :=
    fun n => absurd List.mem_cons_self n
  unfold cycleDone
  split
  · rename_i he
    exact h.closes fun n g => cycleOwned_of_none he (ended n g).1
  · rename_i e he
    by_cases hc : e.cycle = true
    · rw [if_neg (by simp [hc])]
      split
      · refine (finishStopping_keeps mem h).closes fun n g => ?_
        exact cycleOwned_of_none (by simp) (by simpa using (ended n g).1)
      · rename_i run
        simp only [Bool.not_eq_true] at run
        dsimp only
        have idle : .owned ∉ o → CycleOwned s →
            (t.transport.state = .cycling ↔ false = true) ∧ (e.stopping = true → false = true) :=
          fun n g => ⟨by simpa using (ended n g).1, by simp [run]⟩
        split
        · exact enterFadingIn_keeps idle h
        · rename_i hp
          split
          · refine (h.of_cue _ List.mem_cons_self).closes fun n g => ?_
            exact cycleOwned_of_some rfl ⟨nofun, by simp [hp], by simp [run]⟩ (idle n g).1
          · refine (completeCue_keeps _ mem h).closes fun n g => ?_
            exact cycleOwned_of_none (by simp) (by simpa using (ended n g).1)
        · rename_i hp _
          refine (h.of_cue _ List.mem_cons_self).closes fun n g => ?_
          exact cycleOwned_of_some rfl ⟨nofun, fun x => absurd x hp, by simp [run]⟩ (idle n g).1
    · rw [if_pos (by simp [hc])]
      exact h.closes fun n g => cycleOwned_of_some he ((ended n g).2 e he) (by simpa [hc] using (ended n g).1)

theorem dropStarted_keeps (h : Keeps o s t) : Keeps o s (dropStarted t) := by
  unfold dropStarted
  split
  · rename_i e he
    split
    · exact enterFadingIn_keeps (fun n g => ⟨(h.owned n g).cycling_iff he, ((h.owned n g).sound he).stopping⟩)
        (h.opens .owned)
    · exact h
  · exact h

/-! ### The fan and the power state (R85 to R99) -/

theorem fanMin_le (b : Bytes) : fanMin b ≤ 255 := by
  have := (byteAt b 105).isLt
  unfold fanMin set8
  omega

theorem fanMax_le (b : Bytes) : fanMax b ≤ 255 := Nat.max_le.mpr ⟨fanMin_le b, (clamp_bounds (by omega) _).2⟩

theorem setFan_keeps {f : Nat} (hf : LevelsBounded t → f ≤ 255) (h : Keeps o s t) : Keeps o s (setFan f t) := by
  unfold setFan
  split
  · refine h.of_power
      { fan := fun _ => Nat.zero_le _, waits := fun g => ⟨g.runup, fun e => ?_, fun e => ?_⟩, failed := fun _ e => .inl ?_ } <;>
      simp only at e <;> split at e <;> simp_all
  · split
    · exact h.of_power
        { fan := hf, waits := fun g => ⟨g.runup, fun _ => rfl, nofun⟩, failed := fun _ => nofun }
    · exact h.of_power { fan := hf }

theorem stopFocus_keeps (h : Keeps o s t) : Keeps o s (stopFocus t) :=
  h.of_transport { focus := fun _ n => absurd rfl n }

/-- What the lamp, the transport and the cooldown must be for a power state to be entered (R30, R60, R91, R99). -/
def PowerSafe (st : PowerState) (t : State) : Prop :=
  (st = .standby ∨ st = .runup → (t.lamp.state = .off ∨ t.lamp.state = .fault) ∧ t.transport.state ≠ .cycling) ∧
    (st = .standby → t.power.owed = false)

theorem setPower_keeps (st : PowerState) (cause : Nat) (safe : .drive ∉ o → DriveSafe t → PowerSafe st t)
    (h : Keeps o s t) : Keeps o s (setPower st cause t) := by
  have posted := postGate_keeps .power .cooling noCue st.code cause h
  have frame := postGate_frame .power .cooling noCue st.code cause t
  unfold setPower
  generalize postGate .power .cooling noCue st.code cause t = u at posted frame ⊢
  obtain ⟨-, -, -, -, transport, lamp, power, -⟩ := frame
  have safe' : .drive ∉ o → DriveSafe u → PowerSafe st u := fun n g => by
    have := safe n ⟨by simpa only [lamp] using g.lit, by simpa only [lamp, power, transport] using g.dark,
      by simpa only [power] using g.paid, by simpa only [lamp] using g.mark⟩
    simpa only [PowerSafe, lamp, power, transport] using this
  have drive : ∀ p : Power, p.state = st → p.owed = u.power.owed → .drive ∉ o → DriveSafe u →
      DriveSafe { u with power := p } := fun p hs ho n g =>
    ⟨g.lit, fun e => (safe' n g).1 (by simpa only [hs] using e),
      fun e => ho.trans ((safe' n g).2 (by simpa only [hs] using e)), g.mark⟩
  dsimp only
  cases st with
  | standby =>
    have kept : Keeps o s { u with power := { u.power with state := .standby, runupTimer := none } } :=
      posted.of_power { drive := drive _ rfl rfl, waits := fun g => ⟨nofun, g.spinUp, g.watching⟩ }
    simp only [enterPower]
    split
    · exact setFan_keeps (fun _ => Nat.zero_le _) (stopFocus_keeps kept)
    · exact setFan_keeps (fun _ => Nat.zero_le _) kept
  | runup =>
    have kept : Keeps o s { u with power := { u.power with
        state := .runup, runupCount := 0, runupVs := 0, runupTimer := startTimer twoSeconds u } } :=
      posted.of_power { drive := drive _ rfl rfl, waits := fun g => ⟨fun _ => rfl, g.spinUp, g.watching⟩ }
    simp only [enterPower]
    split
    · exact setFan_keeps (fun _ => fanMax_le _) (stopFocus_keeps kept)
    · exact setFan_keeps (fun _ => fanMax_le _) kept
  | on =>
    have kept : Keeps o s { u with power := { u.power with state := .on, runupTimer := none } } :=
      posted.of_power { drive := drive _ rfl rfl, waits := fun g => ⟨nofun, g.spinUp, g.watching⟩ }
    simp only [enterPower]
    split
    · exact stopFocus_keeps kept
    · exact kept
  | shutdown =>
    have kept : Keeps o s { u with power := { u.power with state := .shutdown, runupTimer := none } } :=
      posted.of_power { drive := drive _ rfl rfl, waits := fun g => ⟨nofun, g.spinUp, g.watching⟩ }
    have focused : Keeps o s (if t.power.state = .on ∧ PowerState.shutdown ≠ .on then
        stopFocus { u with power := { u.power with state := .shutdown, runupTimer := none } }
      else { u with power := { u.power with state := .shutdown, runupTimer := none } }) := by
      split
      · exact stopFocus_keeps kept
      · exact kept
    simp only [enterPower]
    split
    · exact setFan_keeps (fun _ => fanMax_le _) focused
    · exact focused

theorem powerSafe_of_on_or_shutdown {st : PowerState} (hs : st = .on ∨ st = .shutdown) (t : State) : PowerSafe st t := by
  rcases hs with rfl | rfl <;> exact ⟨by simp, nofun⟩

theorem testShutdown_keeps (h : Keeps o s t) : Keeps o s (testShutdown t) := by
  rcases testShutdown_cases t with ⟨-, e⟩ | ⟨ready, e⟩ <;> rw [e]
  · exact h
  · simp only [shutdownReady, lampOut, Bool.and_eq_true, Bool.or_eq_true, decide_eq_true_eq, Bool.not_eq_true'] at ready
    obtain ⟨⟨⟨-, out⟩, still⟩, paid⟩ := ready
    exact setPower_keeps _ _ (fun _ _ => ⟨fun _ => ⟨out, still⟩, fun _ => paid⟩) h

theorem oweCooldown_keeps (h : Keeps o s t) : Keeps o s (oweCooldown t) := by
  unfold oweCooldown
  dsimp only
  split
  · rename_i standby
    refine requestStop_keeps (Keeps.closes (x := .drive) (setPower_keeps _ _ (fun n => absurd List.mem_cons_self n)
      (setFan_keeps (fun _ => fanMax_le _) ((h.opens .drive).of_power
        { drive := fun n => absurd List.mem_cons_self n, cooldown := fun _ => Nat.zero_le _ }))) fun n g => ?_)
    have safe := h.drive n g
    refine ⟨by simpa using safe.lit, ?_, ?_, by simpa using safe.mark⟩
    · simp [setPower_power]
    · simp [setPower_power]
  · rename_i on
    exact setFan_keeps (fun _ => fanMax_le _) (h.of_power
      { drive := fun _ g => ⟨g.lit, g.dark, fun e => absurd e on, g.mark⟩, cooldown := fun _ => Nat.zero_le _ })

end Sys2Proof.Machine
end

section
/-! PROOFS. The slide transport's shared operations keep every invariant (R29 to R56). -/

namespace Sys2Proof.Machine

set_option Elab.async false

variable {o : List Open} {s t : State}

/-! ### The cam table, and moves that begin (R32, R36, R37) -/

theorem focusGuard_keeps (h : Keeps o s t) : Keeps o s (focusGuard t) := by
  unfold focusGuard
  split
  · exact stopFocus_keeps h
  · exact h

theorem latchTable_keeps (h : Keeps o s t) : Keeps o s (latchTable t) := by
  unfold latchTable
  dsimp only
  split
  · exact h.of_transport { substituted := nofun }
  · exact (setFlag_keeps .camDefault h).of_transport { substituted := fun _ => .inr (flagOn_setFlag_self _ _) }

/-- Latching the table moves no part of the transport (R37). -/
@[simp] theorem latchTable_transport (s : State) :
    (latchTable s).transport.state = s.transport.state ∧ (latchTable s).transport.target = s.transport.target ∧
      (latchTable s).transport.size = s.transport.size := by
  unfold latchTable
  dsimp only
  split <;> simp

/-- A move that has begun, or waits to begin, waits for no timer that stands (R32, R33). -/
theorem beginMove_timed {w : MoveStatus} (hw : w = .prepared ∨ w = .suspended) (v : Move) (s : State) (v' : Move)
    (e : (beginMove w v s).transport.move = some v') :
    (v'.status = .paused → (beginMove w v s).transport.stallTimer.isSome = true) ∧
      (stepOwed (beginMove w v s).transport v' → (beginMove w v s).transport.stepTimer.isSome = true) := by
  unfold beginMove at e ⊢
  split at e
  · rename_i ended
    obtain rfl := Option.some.inj e
    rw [if_pos ended]
    refine ⟨nofun, fun owed => ?_⟩
    have := owed.2
    simp [ended.2] at this
    simp_all
  · rename_i ended
    rw [if_neg ended]
    split at e
    · rename_i free
      obtain rfl := Option.some.inj e
      rw [if_pos free]
      exact ⟨nofun, fun _ => rfl⟩
    · rename_i free
      obtain rfl := Option.some.inj e
      rw [if_neg free]
      refine ⟨fun p => ?_, fun owed => ?_⟩
      · rcases hw with rfl | rfl <;> cases p
      · have := owed.1
        rcases hw with rfl | rfl <;> cases this

theorem beginMove_keeps {w : MoveStatus} (hw : w = .prepared ∨ w = .suspended) (v : Move)
    (cycling : .transport ∉ o → TransportSettled t → t.transport.state = .cycling) (h : Keeps o s t) :
    Keeps o s (beginMove w v t) := by
  have timed := beginMove_timed hw v t
  obtain ⟨v', timer, e, -⟩ := beginMove_spec w v t
  rw [e] at timed ⊢
  exact h.of_transport
    { settled := fun n g => ⟨g.phase, fun x => absurd (cycling n g) x, g.seat, g.target, g.ready, g.lost⟩
      moves := fun _ _ g => ⟨g.cam, g.seat, fun x hx => (timed x hx).1, fun x hx => (timed x hx).2⟩ }

theorem startRevolution_keeps
    (cycling : .transport ∉ o → TransportSettled t → t.transport.state = .cycling ∧ t.transport.phase ≠ .seat)
    (h : Keeps o s t) : Keeps o s (startRevolution t) :=
  h.of_transport
    { settled := fun n g =>
        ⟨g.phase, fun x => absurd (cycling n g).1 x, fun x => absurd x (cycling n g).2, g.target, g.ready, g.lost⟩
      moves := fun _ _ g => ⟨fun _ => rfl, g.seat, g.pause, g.step⟩ }

/-! ### The end of a cycle (R45, R50) -/

/-- What stands still outside CYCLING is at rest. -/
theorem moveTimed_of_still {x : Transport} (phase : x.phase = .none) (cam : x.camRunning = false) (move : x.move = none) :
    MoveTimed x :=
  ⟨by simp [cam], by simp [phase], by simp [move], by simp [move]⟩

theorem jam_keeps (c : JamCause) (h : Keeps o s t) : Keeps o s (jam c t) := by
  unfold jam
  dsimp only
  have flagged := setFlag_keeps .jam (post_keeps .jam .transport noCue (toByte t.transport.target) c.code
    (t.transport.camAngle.getD 65535) (h.opens .owned))
  refine testShutdown_keeps (abortCycle_keeps (fun n g => ⟨by simp, fun e he => (h.owned n g).sound (by simpa using he)⟩)
    (flagged.of_transport
      { drive := fun _ g => ⟨g.lit, fun e => ⟨(g.dark e).1, nofun⟩, g.paid, g.mark⟩
        settled := fun _ g =>
          ⟨by simp, fun _ => ⟨rfl, rfl, rfl, rfl, rfl⟩, nofun, nofun, nofun, fun _ => rfl⟩
        moves := fun _ _ _ => moveTimed_of_still rfl rfl rfl
        owned := fun n => absurd List.mem_cons_self n
        jammed := fun _ => .inr (flagOn_setFlag_self _ _) }))

theorem showErr_keeps (h : Keeps o s t) : Keeps o s (showErr t) := h.of_handset {}

theorem postHandset_keeps (k : CueKind) (h : Keeps o s t) : Keeps o s (postHandset k t) := by
  unfold postHandset
  dsimp only
  split
  · exact showErr_keeps (postCue_keeps _ _ _ h)
  · exact postCue_keeps _ _ _ h

/-- The cam is at its index and the target on the tray, as they are in SEAT (R42, R43). -/
def AtSeat (t : State) : Prop := t.transport.camAngle = some 0 ∧ t.transport.target ≤ t.transport.size

theorem TransportSettled.atSeat (h : TransportSettled s) (hp : s.transport.phase = .seat) : AtSeat s :=
  ⟨(h.seat hp).2, h.target (h.phase.mpr (by simp [hp]))⟩

/-- A cycle completes from the seat, whatever stood open of the transport (R45). -/
theorem completeCycle_keeps (seat : .transport ∉ o → TransportSettled s → AtSeat t)
    (sound : .owned ∉ o → CycleOwned s → ∀ e, t.engine.cue = some e → CueSound e)
    (h : Keeps (.owned :: .transport :: o) s t) : Keeps o s (completeCycle t) := by
  have mem : Open.transport ∈ Open.owned :: Open.transport :: o := by simp
  have ended : ∀ {x : Transport}, x.state = .ready ∨ x.state = .unhomed → x.phase = .none → x.camRunning = false →
      x.move = none → x.substituted = t.transport.substituted → x.focus = t.transport.focus →
      x.focusAllowance = t.transport.focusAllowance →
      (.transport ∉ o → TransportSettled s → TransportSettled { t with transport := x }) →
      Keeps (.owned :: o) s { t with transport := x } := by
    intro x rest phase cam move sub focus allowance settled
    have out : x.state ≠ .cycling ∧ x.state ≠ .jammed := by rcases rest with e | e <;> simp [e]
    have open' : Keeps (.owned :: .transport :: o) s { t with transport := x } := h.of_transport
      { drive := fun _ g => ⟨g.lit, fun e => ⟨(g.dark e).1, out.1⟩, g.paid, g.mark⟩
        settled := fun n => absurd mem n, moves := fun n => absurd mem n
        focus := fun g => by rw [FocusTimed, focus, allowance]; exact g
        owned := fun n => absurd List.mem_cons_self n
        substituted := fun e => .inl (sub ▸ e), jammed := fun e => absurd e out.2 }
    refine (open'.weaken (o' := .transport :: .owned :: o) (by simp; tauto)).closes fun n g => ?_
    exact ⟨settled (fun m => n (List.mem_cons_of_mem _ m)) g, fun _ => moveTimed_of_still phase cam move⟩
  unfold completeCycle
  dsimp only
  have posted : ∀ {p : Prop} [Decidable p] {u : State}, Keeps o s u → Keeps o s (if p then postHandset .advance u else u) := by
    intro p _ u hu
    split
    · exact postHandset_keeps _ hu
    · exact hu
  refine posted (testShutdown_keeps (cycleDone_keeps _ (fun n g => ⟨?_, fun e he => sound n g e ?_⟩) ?_))
  · split <;> simp
  · split at he <;> simpa using he
  · split
    · exact ended (.inr rfl) rfl rfl rfl rfl rfl rfl fun _ _ =>
        ⟨by simp, fun _ => ⟨rfl, rfl, rfl, rfl, rfl⟩, nofun, nofun, nofun, fun _ => rfl⟩
    · refine ended (.inl rfl) rfl rfl rfl rfl rfl rfl fun n g => ?_
      obtain ⟨angle, target⟩ := seat n g
      exact ⟨by simp, fun _ => ⟨rfl, rfl, rfl, rfl, rfl⟩, nofun, nofun, fun _ => ⟨angle, _, rfl, rfl, rfl, target⟩, by simp⟩

theorem seatMade_keeps (seat : .transport ∉ o → TransportSettled s → AtSeat t)
    (sound : .owned ∉ o → CycleOwned s → ∀ e, t.engine.cue = some e → CueSound e)
    (h : Keeps (.owned :: .transport :: o) s t) : Keeps o s (seatMade t) :=
  completeCycle_keeps seat sound (h.of_transport {})

/-- The cam at rest at its index, the seat is watched for or made (R43). -/
theorem enterSeat_keeps (angle : t.transport.camAngle = some 0)
    (cycling : .transport ∉ o → TransportSettled t → t.transport.state = .cycling) (h : Keeps o s t) :
    Keeps o s (enterSeat t) := by
  have seat : .transport ∉ o → TransportSettled s → AtSeat t :=
    fun n g => ⟨angle, (h.settled n g).target (cycling n (h.settled n g))⟩
  have sound : .owned ∉ o → CycleOwned s → ∀ e, t.engine.cue = some e → CueSound e := fun n g _ => (h.owned n g).sound
  have entered : Keeps (.owned :: .transport :: o) s { t with transport := { t.transport with
      phase := .seat, camRunning := false, camTimer := { left := 0, due := none } } } :=
    ((h.opens .transport).opens .owned).of_transport
      { settled := fun n => absurd (by simp) n, moves := fun n => absurd (by simp) n }
  unfold enterSeat
  dsimp only
  split
  · exact seatMade_keeps seat sound entered
  · split
    · exact completeCycle_keeps seat sound entered
    · exact h.of_transport
        { settled := fun n g =>
            ⟨by simp [cycling n g], fun x => absurd (cycling n g) x, fun _ => ⟨rfl, angle⟩, g.target, g.ready, g.lost⟩
          moves := fun _ _ g => ⟨nofun, fun _ => rfl, g.pause, g.step⟩ }

/-! ### The cam in a cycle (R36, R40 to R42) -/

theorem enterDrop_keeps (cycle : .transport ∉ o → t.transport.phase ≠ .none) (h : Keeps o s t) :
    Keeps o s (enterDrop t) :=
  dropStarted_keeps (h.of_transport
    { settled := fun n g => ⟨by simp [g.phase, cycle n], g.still, nofun, g.target, g.ready, g.lost⟩
      moves := fun _ _ g => ⟨g.cam, nofun, g.pause, g.step⟩ })

theorem moveEnded_keeps (ended : ∀ v, t.transport.move = some v → ¬ stepOwed t.transport v) (h : Keeps o s t) :
    Keeps o s (moveEnded t) := by
  have ended : Keeps o s { t with transport := { t.transport with stepTimer := none } } :=
    h.of_transport
      { settled := fun _ g => ⟨g.phase, fun x =>
          have ⟨cam, move, _, stall, seat⟩ := g.still x
          ⟨cam, move, rfl, stall, seat⟩, g.seat, g.target, g.ready, g.lost⟩
        moves := fun _ _ g => ⟨g.cam, g.seat, g.pause, fun v hv owed => absurd owed (ended v hv)⟩ }
  unfold moveEnded
  dsimp only
  split
  · rename_i park
    exact enterDrop_keeps (fun _ => by simp [park]) (ended.of_transport
      { settled := fun _ g => ⟨g.phase, fun x => absurd (g.phase.mpr (by simp [park])) x, by simp [park], g.target, g.ready,
          g.lost⟩
        moves := fun _ _ g => ⟨fun _ => resumeTimer_due _ _, g.seat, g.pause, g.step⟩ })
  · exact ended

theorem liftCheck_keeps (h : Keeps o s t) : Keeps o s (liftCheck t) := by
  unfold liftCheck
  split
  · exact jam_keeps _ h
  · exact h

/-- The normal part of a cycle starts, whatever stood open of the transport (R40, R48). -/
theorem startNormal_keeps (v : Transport → Move)
    (cycling : .transport ∉ o → TransportSettled s → t.transport.state = .cycling ∧ t.transport.target ≤ t.transport.size)
    (h : Keeps (.transport :: o) s t) : Keeps o s (startNormal v t) := by
  have mem : Open.transport ∈ Open.transport :: o := List.mem_cons_self
  unfold startNormal
  dsimp only
  have latched := latchTable_keeps h
  have frame := latchTable_transport t
  generalize latchTable t = u at latched frame ⊢
  have revolved := startRevolution_keeps (fun n => absurd mem n) (latched.of_transport
    (x := { u.transport with phase := .lift, stalls := 0, retried := false, seatedAt := none })
    { settled := fun n => absurd mem n, moves := fun n => absurd mem n })
  generalize hr : startRevolution { u with transport := { u.transport with
    phase := .lift, stalls := 0, retried := false, seatedAt := none } } = r at revolved ⊢
  have begun : Keeps o s (beginMove .prepared (v r.transport) r) := by
    refine (beginMove_keeps (.inl rfl) _ (fun n => absurd mem n) revolved).closes fun n g => ?_
    obtain ⟨state, target⟩ := cycling n g
    have timed := beginMove_timed (.inl rfl) (v r.transport) r
    obtain ⟨v', timer, e, -⟩ := beginMove_spec .prepared (v r.transport) r
    rw [e] at timed ⊢
    subst hr
    have cyc : u.transport.state = .cycling := frame.1.trans state
    refine ⟨⟨?_, fun x => absurd cyc x, nofun, fun _ => ?_, fun x => ?_, fun x => ?_⟩,
      fun _ => ⟨fun _ => rfl, nofun, fun x hx => (timed x hx).1, fun x hx => (timed x hx).2⟩⟩
    · simpa using cyc
    · simpa [frame] using target
    · simp [cyc] at x
    · simp [cyc] at x
  split
  · split
    · exact liftCheck_keeps (focusGuard_keeps begun)
    · exact focusGuard_keeps begun
  · exact focusGuard_keeps begun

/-! ### Change requests (R30, R40, R48) -/

theorem targetOf_le (size p : Nat) (r : ChangeRequest) : targetOf size p r ≤ size := by
  cases r with
  | fwd => exact Nat.le_of_lt_succ (Nat.mod_lt _ (Nat.succ_pos _))
  | rev => exact Nat.le_of_lt_succ (Nat.mod_lt _ (Nat.succ_pos _))
  | goto v => exact Nat.min_le_right _ _

theorem traySize_ge (b : Bytes) : 1 ≤ traySize b := by
  unfold traySize
  (repeat' split) <;> omega

theorem homingTarget_le (b : Bytes) (r : ChangeRequest) : homingTarget (traySize b) r ≤ traySize b := by
  cases r with
  | fwd => exact traySize_ge b
  | rev => exact traySize_ge b
  | goto v => exact Nat.min_le_right _ _

/-- The executing cue says that its cycle is in flight, which no transport has begun yet (R19). -/
def CyclePromised (t : State) : Prop :=
  t.transport.state ≠ .cycling ∧ ∃ e, t.engine.cue = some e ∧ CueSound e ∧ e.cycle = true

/-- A cycle begins with power for it: the promise of the executing cue is kept (R19, R30). -/
theorem enterCycling_keeps (target : Nat) (powered : t.power.state = .on ∨ t.power.state = .shutdown)
    (promised : .owned ∉ o → CycleOwned s → CyclePromised t) (h : Keeps (.owned :: o) s t) :
    Keeps (.transport :: o) s (enterCycling target t) := by
  refine Keeps.closes (x := .owned) ((h.weaken (o' := .owned :: .transport :: o) (by simp; tauto)).of_transport
    { drive := fun _ g => ⟨g.lit, fun e => ?_, g.paid, g.mark⟩
      settled := fun n => absurd (by simp) n, moves := fun n => absurd (by simp) n
      owned := fun n => absurd (by simp) n, jammed := nofun }) fun n g => ?_
  · simp only at e
    rcases powered with p | p <;> simp [p] at e
  · obtain ⟨-, e, he, sound, cycle⟩ := promised (fun m => n (List.mem_cons_of_mem _ m)) g
    exact cycleOwned_of_some he sound ⟨fun _ => cycle, fun _ => rfl⟩

theorem startChange_keeps (r : ChangeRequest) (powered : t.power.state = .on ∨ t.power.state = .shutdown)
    (promised : .owned ∉ o → CycleOwned s → CyclePromised t) (h : Keeps (.owned :: o) s t) :
    Keeps o s (startChange r t) :=
  startNormal_keeps _ (fun _ _ => ⟨rfl, targetOf_le _ _ _⟩) (enterCycling_keeps _ powered promised h)

theorem startHoming_keeps (r : ChangeRequest) (unhomed : t.transport.state = .unhomed)
    (powered : t.power.state = .on ∨ t.power.state = .shutdown)
    (promised : .owned ∉ o → CycleOwned s → CyclePromised t) (h : Keeps (.owned :: o) s t) :
    Keeps o s (startHoming r t) := by
  have begun := enterCycling_keeps (homingTarget (traySize t.path.settings) r) powered promised h
  unfold startHoming
  dsimp only
  split
  · exact startNormal_keeps _ (fun _ _ => ⟨rfl, homingTarget_le _ _⟩) begun
  · refine focusGuard_keeps ((startRevolution_keeps (fun n => absurd List.mem_cons_self n) (begun.of_transport
      { settled := fun n => absurd List.mem_cons_self n, moves := fun n => absurd List.mem_cons_self n })).closes
      fun n g => ?_)
    have settled := h.settled (by simpa using n) g
    obtain ⟨-, move, -⟩ := settled.still (by simp [unhomed])
    refine ⟨⟨by simp, fun x => absurd rfl x, nofun, fun _ => homingTarget_le _ _, nofun, by simp⟩,
      fun _ => ⟨fun _ => rfl, nofun, ?_, ?_⟩⟩
    · simp [move]
    · simp [move]

theorem changeRequest_keeps (r : ChangeRequest) (promised : .owned ∉ o → CycleOwned s → CyclePromised t)
    (h : Keeps (.owned :: o) s t) : Keeps o s (changeRequest r t) := by
  have aborted : Keeps o s (abortCycle t) := abortCycle_keeps (fun n g =>
    have ⟨still, e, he, sound, _⟩ := promised n g
    ⟨still, fun x hx => Option.some.inj (hx.symm.trans he) ▸ sound⟩) h
  unfold changeRequest changeAnswer
  cases state : t.transport.state with
  | cycling => exact h.closes fun n g => absurd state (promised n g).1
  | jammed => exact aborted
  | noTray => exact aborted
  | ready =>
    by_cases powered : t.power.state = .on ∨ t.power.state = .shutdown
    · simpa only [if_pos powered] using startChange_keeps r powered promised h
    · simpa only [if_neg powered] using aborted
  | unhomed =>
    by_cases powered : t.power.state = .on ∨ t.power.state = .shutdown
    · simpa only [if_pos powered] using startHoming_keeps r state powered promised h
    · simpa only [if_neg powered] using aborted

/-! ### Advancing a change cue (R19, R23) -/

theorem enterChanging_keeps (e : Executing) (idle : .owned ∉ o → CycleOwned s → t.transport.state ≠ .cycling)
    (h : Keeps (.owned :: o) s t) : Keeps o s (enterChanging e t) :=
  changeRequest_keeps _ (fun n g => ⟨idle n g, _, rfl, ⟨fun _ => .inl rfl, fun _ => rfl, fun _ => rfl⟩, rfl⟩)
    (h.of_cue _ List.mem_cons_self)

theorem enterFadingOut_keeps {e : Executing}
    (idle : .owned ∉ o → CycleOwned s → t.transport.state ≠ .cycling ∧ e.cycle = false ∧ e.stopping = false)
    (h : Keeps (.owned :: o) s t) : Keeps o s (enterFadingOut e t) := by
  unfold enterFadingOut
  split
  · exact enterChanging_keeps _ (fun n g => (idle n g).1) h
  · refine setRamp_keeps _ _ _ ((h.of_cue _ List.mem_cons_self).closes fun n g => ?_)
    obtain ⟨still, cycle, run⟩ := idle n g
    exact cycleOwned_of_some rfl ⟨by simp [cycle], nofun, by simp [run]⟩ (by simp [cycle, still])

theorem engineRampDone_keeps (h : Keeps o s t) : Keeps o s (engineRampDone t) := by
  unfold engineRampDone
  split
  · exact h
  · rename_i e he
    have sound : CycleOwned t → CueSound e := fun g => g.sound he
    have cycling : CycleOwned t → (t.transport.state = .cycling ↔ e.cycle = true) := fun g => g.cycling_iff he
    dsimp only
    split
    · exact h
    · split
      · rename_i hp
        refine enterChanging_keeps _ (fun n g => ?_) (h.opens .owned)
        have own := h.owned n g
        rw [Ne, own.cycling_iff he]
        exact fun c => by simpa [hp] using (sound own).phases c
      · rename_i hp
        split
        · exact h.of_cue_some fun _ g => ⟨⟨(sound g).phases, (sound g).changing, (sound g).stopping⟩, cycling g⟩
        · rename_i hc
          exact completeCue_keeps _ (fun _ g => by rw [Ne, g.cycling_iff he]; exact hc) h
      · exact h.of_cue_some fun _ g => ⟨⟨(sound g).phases, (sound g).changing, (sound g).stopping⟩, cycling g⟩

/-! ### Clearing a jam, a change of tray size, and the focus motor (R29, R51, R54, R55) -/

/-- A transport at rest without a slot in gate takes another state of rest (R51 to R53). -/
theorem Keeps.of_rest (h : Keeps o s t) {st : TransportState} (still : t.transport.state ≠ .cycling)
    (rest : st = .unhomed ∨ st = .noTray) (cause : Option JamCause) (count position : Option Nat) :
    Keeps o s { t with transport := { t.transport with
      state := st, jamCause := cause, stepCount := count, position := position, slotInGate := none } } :=
  h.of_transport
    { drive := fun _ g => ⟨g.lit, fun e => ⟨(g.dark e).1, by rcases rest with rfl | rfl <;> nofun⟩, g.paid, g.mark⟩
      settled := fun _ g => ⟨by
          have := g.phase
          rcases rest with rfl | rfl <;> simpa [still] using this,
        fun _ => g.still still, g.seat, by rcases rest with rfl | rfl <;> nofun, by rcases rest with rfl | rfl <;> nofun,
        fun _ => rfl⟩
      owned := fun _ g => ⟨by
          have := g.own
          rcases rest with rfl | rfl <;> simpa [still] using this, g.phases, g.changing, g.stopping⟩
      jammed := by rcases rest with rfl | rfl <;> nofun }

theorem clearJam_keeps (h : Keeps o s t) : Keeps o s (clearJam t).1 := by
  unfold clearJam
  split
  · rename_i jammed
    exact h.of_rest (by simp [jammed]) (.inl rfl) none none none
  · exact h

theorem sizeChange_keeps (h : Keeps o s t) : Keeps o s (sizeChange t) := by
  unfold sizeChange
  split
  · rename_i ready
    exact h.of_rest (by simp [ready]) (.inl rfl) t.transport.jamCause none none
  · exact h.of_transport {}
  · exact h

theorem focusReport_keeps (r : FocusReport) (h : Keeps o s t) : Keeps o s (focusReport r t) := by
  unfold focusReport
  split
  · exact h.of_transport { focus := fun _ n => absurd rfl n }
  · rename_i d
    dsimp only
    generalize (if t.transport.focusKey = some d then t.transport.focusAllowance else fullAllowance) = allow
    split
    · exact h.of_transport { focus := fun _ _ => resumeTimer_due _ _ }
    · exact h.of_transport { focus := fun _ n => absurd rfl n }

end Sys2Proof.Machine
end

section
/-! PROOFS. The operations of the lamp controller and of the power unit's changes keep every invariant (R58 to R91). -/

namespace Sys2Proof.Machine

set_option Elab.async false

variable {o : List Open} {s t : State}

/-! ### The lamp's state through the shared operations -/

@[simp] theorem finishStopping_lamp (s : State) :
    (finishStopping s).lamp.state = s.lamp.state ∧ (finishStopping s).lamp.duty = s.lamp.duty ∧
      (finishStopping s).lamp.goingOff = s.lamp.goingOff := by
  unfold finishStopping
  dsimp only
  split <;> simp

@[simp] theorem stopAgain_lamp (e : Executing) (s : State) :
    (stopAgain e s).lamp.state = s.lamp.state ∧ (stopAgain e s).lamp.duty = s.lamp.duty ∧
      (stopAgain e s).lamp.goingOff = s.lamp.goingOff := by
  unfold stopAgain
  split <;> simp

@[simp] theorem stopExecuting_lamp (s : State) :
    (stopExecuting s).lamp.state = s.lamp.state ∧ (stopExecuting s).lamp.duty = s.lamp.duty ∧
      (stopExecuting s).lamp.goingOff = s.lamp.goingOff := by
  unfold stopExecuting
  dsimp only
  (repeat' split) <;> simp

/-- A STOP reaches the lamp's ramp record alone (R6). -/
@[simp] theorem requestStop_lamp (s : State) :
    (requestStop s).lamp.state = s.lamp.state ∧ (requestStop s).lamp.duty = s.lamp.duty ∧
      (requestStop s).lamp.goingOff = s.lamp.goingOff := by simp [requestStop]

@[simp] theorem oweCooldown_lamp (s : State) :
    (oweCooldown s).lamp.state = s.lamp.state ∧ (oweCooldown s).lamp.duty = s.lamp.duty ∧
      (oweCooldown s).lamp.goingOff = s.lamp.goingOff := by
  unfold oweCooldown
  dsimp only
  split <;> simp

/-- The lamp leaves LIT for the state given, dark (R62, R82). -/
@[simp] theorem leaveLit_lamp (st : LampState) (s : State) :
    (leaveLit st s).lamp.state = st ∧ (leaveLit st s).lamp.duty = 0 ∧ (leaveLit st s).lamp.goingOff = s.lamp.goingOff := by
  unfold leaveLit leftLit
  split <;> simp

/-! ### Leaving LIT (R82, R62) -/

theorem leftLit_keeps (h : Keeps o s t) : Keeps o s (leftLit t) := by
  unfold leftLit
  split
  · exact oweCooldown_keeps h
  · exact h

/-- A lamp that is LIT has power for it, so that no state it leaves LIT for can meet STANDBY or RUNUP (R60). -/
theorem DriveSafe.powered (h : DriveSafe s) (lit : s.lamp.state = .lit ∨ s.lamp.state = .swapping) :
    s.power.state = .on ∨ s.power.state = .shutdown := by
  have dark := h.dark
  cases hp : s.power.state <;> rcases lit with e | e <;> simp_all

theorem DriveSafe.of_powered (powered : s.power.state = .on ∨ s.power.state = .shutdown)
    (lit : 0 < s.lamp.duty → s.lamp.state = .lit)
    (mark : s.lamp.goingOff.isSome = true → s.lamp.state = .lit ∨ s.lamp.state = .swapping) : DriveSafe s :=
  ⟨lit, by rcases powered with e | e <;> simp [e], by rcases powered with e | e <;> simp [e], mark⟩

theorem leaveLit_keeps {st : LampState} (lit : t.lamp.state = .lit) (mark : st = .swapping ∨ t.lamp.goingOff = none)
    (swap : st = .swapping → .swap ∈ o) (fault : st = .fault → .flag .noLamp ∈ o) (h : Keeps o s t) :
    Keeps o s (leaveLit st t) :=
  testShutdown_keeps (leftLit_keeps (h.of_lamp
    { drive := fun _ g => .of_powered (g.powered (.inl lit)) (by simp) (by rcases mark with e | e <;> simp [e])
      duty := fun _ => Nat.zero_le _
      swap := fun n _ e => absurd (swap e) n
      fault := fun n e => absurd (fault e) n }))

theorem offRampDone_keeps (h : Keeps o s t) : Keeps o s (offRampDone t) := by
  unfold offRampDone
  split
  · rename_i c
    exact leaveLit_keeps c.1 (.inr rfl) nofun nofun
      (h.of_lamp { drive := fun _ g => ⟨g.lit, g.dark, g.paid, by simp⟩ })
  · exact h

/-! ### The ramp (R61, R65) -/

theorem rampDone_keeps (h : Keeps o s t) : Keeps o s (rampDone t) := by
  have stage : Keeps o s { t with lamp := { t.lamp with
      level := t.lamp.ramp.l1, ramp := { t.lamp.ramp with k := t.lamp.ramp.k + 1, active := false } } } :=
    h.of_lamp { levels := fun g => ⟨g.ramp.2, g.ramp⟩ }
  unfold rampDone
  dsimp only
  split
  · exact engineRampDone_keeps stage
  · exact offRampDone_keeps stage
  · exact stage

theorem rampStage_keeps (h : Keeps o s t) : Keeps o s (rampStage t) := by
  unfold rampStage
  dsimp only
  split
  · exact h
  · split
    · rename_i below
      refine h.of_lamp { levels := fun g => ⟨?_, g.ramp⟩ }
      have := (lerp_between (a := t.lamp.ramp.l0) (b := t.lamp.ramp.l1) (Nat.le_of_lt below)).2
      have := g.ramp
      simp only
      omega
    · exact rampDone_keeps h

theorem offRequest_keeps (who : OffRequest) (n : Nat) (h : Keeps o s t) : Keeps o s (offRequest who n t) := by
  unfold offRequest
  dsimp only
  split
  · rename_i lit
    have marked := (setRamp_keeps 0 n .off h).of_lamp (l := { (setRamp 0 n .off t).lamp with goingOff := some who })
      { drive := fun _ g => ⟨g.lit, g.dark, g.paid, fun _ => lit⟩ }
    split
    · exact engineRampDone_keeps marked
    · exact marked
  · exact h

/-! ### The carriage (R58, R59, R75 to R77) -/

theorem followCarriage_keeps (h : Keeps o s t) : Keeps o s (followCarriage t) := by
  unfold followCarriage
  split
  · exact h.of_lamp {}
  · exact h.of_lamp {}
  · exact h

/-- The carriage sets off with its timer running, whatever the lamp waited for before (R59). -/
theorem startSwap_keeps (x : Socket) (failure : Bool)
    (powered : .drive ∉ o → DriveSafe t → t.power.state = .on ∨ t.power.state = .shutdown)
    (h : Keeps (.swap :: o) s t) : Keeps o s (startSwap x failure t) :=
  Keeps.closes (x := .swap) (h.of_lamp
    { drive := fun n g => .of_powered (powered (fun m => n (List.mem_cons_of_mem _ m)) g) (by simp) (by simp)
      duty := fun _ => Nat.zero_le _
      swap := fun n => absurd List.mem_cons_self n
      fault := fun _ => nofun }) fun _ _ _ => rfl

theorem enterFault_keeps (flagged : flagOn t .noLamp = true) (h : Keeps o s t) : Keeps o s (enterFault t) :=
  testShutdown_keeps (h.of_lamp
    { drive := fun _ g => ⟨by simp, fun e => ⟨by simp, (g.dark e).2⟩, g.paid, by simp⟩
      duty := fun _ => Nat.zero_le _
      swap := fun _ _ => nofun
      fault := fun _ _ => .inr flagged })

/-- NO_LAMP is flagged: a lamp in FAULT has its flag (R60, R75). -/
theorem postNoLamp_keeps (reason socket : Nat) (h : Keeps (.flag .noLamp :: o) s t) :
    Keeps o s (postNoLamp reason socket t) :=
  (setFlag_keeps _ (postGate_keeps _ _ _ _ _ h)).closes fun _ _ => .inr (flagOn_setFlag_self _ _)

theorem carriageArrived_keeps (swapping : t.lamp.state = .swapping) (h : Keeps o s t) : Keeps o s (carriageArrived t) := by
  have posted : ∀ u : State, u.lamp = t.lamp → Keeps o s u →
      Keeps o s (if u.lamp.goingOff.isSome ∧ !u.lamp.ramp.active then
        testShutdown { u with lamp := { u.lamp with
          carriageTimer := none, failureSwap := false, duty := 0, state := .off, goingOff := none } }
      else { u with lamp := { u.lamp with carriageTimer := none, failureSwap := false, duty := 0, state := .lit } }) := by
    intro u same hu
    rw [← same] at swapping
    split
    · exact testShutdown_keeps (hu.of_lamp
        { drive := fun _ g => .of_powered (g.powered (.inr swapping)) (by simp) (by simp)
          duty := fun _ => Nat.zero_le _, swap := fun _ _ => nofun, fault := fun _ => nofun })
    · exact hu.of_lamp
        { drive := fun _ g => .of_powered (g.powered (.inr swapping)) (by simp) (by simp)
          duty := fun _ => Nat.zero_le _, swap := fun _ _ => nofun, fault := fun _ => nofun }
  unfold carriageArrived
  dsimp only
  by_cases failure : t.lamp.failureSwap = true
  · simp only [if_pos failure]
    exact posted _ (by simp) (postGate_keeps _ _ _ _ _ h)
  · simp only [if_neg failure]
    exact posted _ rfl h

theorem setSocket_state (k : Socket) (x : SocketState) (l : Lamp) : (setSocket k x l).state = l.state := by
  cases k <;> rfl

/-- A socket marked as failed or good changes that mark alone. -/
theorem setSocket_eq (k : Socket) (x : SocketState) (l : Lamp) : setSocket k x l = { l with
    primary := if k = .primary then x else l.primary, spare := if k = .spare then x else l.spare } := by
  cases k <;> rfl

theorem socketFails_keeps (kind : Failure) (lit : t.lamp.state = .lit) (h : Keeps o s t) : Keeps o s (socketFails kind t) := by
  have marked : Keeps (.flag (socketFlag t.lamp.active) :: o) s { t with lamp := setSocket t.lamp.active .failed t.lamp } := by
    rw [setSocket_eq]
    refine (h.opens _).of_lamp { primary := fun n e => ?_, spare := fun n e => ?_ } <;>
      cases ha : t.lamp.active <;> simp_all [socketFlag]
  have failed : Keeps o s (setFlag (socketFlag t.lamp.active) (postGate .lampFailed .lamp noCue t.lamp.active.code kind.code
      { t with lamp := setSocket t.lamp.active .failed t.lamp })) :=
    (setFlag_keeps _ (postGate_keeps _ _ _ _ _ marked)).closes fun _ _ => .inr (flagOn_setFlag_self _ _)
  have lit' : (setFlag (socketFlag t.lamp.active) (postGate .lampFailed .lamp noCue t.lamp.active.code kind.code
      { t with lamp := setSocket t.lamp.active .failed t.lamp })).lamp.state = .lit := by
    simpa [setSocket_state] using lit
  unfold socketFails
  dsimp only
  generalize setFlag (socketFlag t.lamp.active) (postGate .lampFailed .lamp noCue t.lamp.active.code kind.code
    { t with lamp := setSocket t.lamp.active .failed t.lamp }) = u at failed lit' ⊢
  split
  · exact startSwap_keeps _ _ (fun _ g => g.powered (by simp))
      (leaveLit_keeps lit' (.inl rfl) (fun _ => List.mem_cons_self) nofun (failed.opens .swap))
  · exact postNoLamp_keeps _ _ (leaveLit_keeps (by exact lit') (.inr rfl) nofun (fun _ => List.mem_cons_self)
      ((failed.opens _).of_lamp { drive := fun _ g => ⟨g.lit, g.dark, g.paid, by simp⟩ }))

/-! ### LAMP_ON, LAMP_OFF, LAMP_REPLACED (R60, R61, R63) -/

theorem lampOn_keeps (h : Keeps o s t) : Keeps o s (lampOn t).1 := by
  unfold lampOn
  by_cases on : t.power.state = .on
  · rw [if_neg (by simp [on])]
    have marked : Keeps o s { t with lamp := cancelOff t.lamp } :=
      h.of_lamp { drive := fun _ g => ⟨g.lit, g.dark, g.paid, by simp [cancelOff]⟩ }
    cases state : t.lamp.state with
    | fault => exact h
    | lit => exact marked
    | swapping => exact marked
    | off =>
      have unlit : DriveSafe t → ¬ 0 < t.lamp.duty := fun g d => by simpa [state] using g.lit d
      dsimp only
      split
      · exact postNoLamp_keeps _ _ ((h.opens _).of_lamp
          { drive := fun _ g => .of_powered (.inl on) (fun d => absurd d (unlit g)) (by simp)
            swap := fun _ _ => nofun, fault := fun n => absurd List.mem_cons_self n })
      · rename_i x _
        split
        · exact h.of_lamp
            { drive := fun _ g => .of_powered (.inl on) (by simp) (by simp)
              duty := fun _ => Nat.zero_le _, swap := fun _ _ => nofun, fault := fun _ => nofun }
        · have unmarked : Keeps o s { t with lamp := { t.lamp with goingOff := none } } :=
            h.of_lamp { drive := fun _ g => ⟨g.lit, g.dark, g.paid, by simp⟩ }
          exact startSwap_keeps x false (fun _ _ => .inl on) (unmarked.opens .swap)
  · rw [if_pos on]
    exact h

theorem lampOff_keeps (h : Keeps o s t) : Keeps o s (lampOff t) := offRequest_keeps _ _ h

theorem lampReplaced_keeps (a : Nat) (h : Keeps o s t) : Keeps o s (lampReplaced a t).1 := by
  unfold lampReplaced
  split
  · exact h
  · dsimp only
    rw [setSocket_eq]
    generalize (if a = 0 then Socket.primary else Socket.spare) = x
    refine h.of_lamp
      { drive := fun _ g => ⟨fun d => ?_, fun e => ⟨?_, (g.dark e).2⟩, g.paid, fun m => ?_⟩
        swap := fun _ g e => g ?_
        primary := fun _ e => .inl ?_, spare := fun _ e => .inl ?_, fault := fun _ e => ?_ }
    · simp [g.lit d]
    · have := (g.dark e).1
      dsimp only
      split
      · simp
      · exact this
    · rcases g.mark m with e | e <;> simp [e]
    · dsimp only at e
      split at e
      · cases e
      · exact e
    · cases x <;> simp_all
    · cases x <;> simp_all
    · dsimp only at e
      split at e
      · cases e
      · exact .inl e

/-! ### The lamp period (R67 to R74, R80) -/

theorem postLowSupply_keeps (vs : Nat) (h : Keeps o s t) : Keeps o s (postLowSupply vs t) :=
  setFlag_keeps _ (postGate_keeps _ _ _ _ _ h)

theorem countLowSupply_keeps (vs : Nat) (h : Keeps o s t) : Keeps o s (countLowSupply vs t) := by
  unfold countLowSupply
  dsimp only
  split
  · split
    · exact postLowSupply_keeps _ (h.of_lamp {})
    · exact h.of_lamp {}
  · exact h.of_lamp {}

@[simp] theorem countLowSupply_lamp (vs : Nat) (s : State) : (countLowSupply vs s).lamp.state = s.lamp.state := by
  unfold countLowSupply
  dsimp only
  (repeat' split) <;> simp

theorem dutyStage_keeps (vs : Nat) (h : Keeps o s t) : Keeps o s (dutyStage vs t) := by
  unfold dutyStage
  split
  · rename_i driven
    have lit : t.lamp.state = .lit := by
      simp only [mayDrive, Bool.and_eq_true, decide_eq_true_eq] at driven
      exact driven.1.1.1
    exact (countLowSupply_keeps vs h).of_lamp
      { drive := fun _ g => ⟨fun _ => by simpa using lit, g.dark, g.paid, g.mark⟩
        duty := fun _ => slewed_le _ _ _ _ }
  · exact h.of_lamp
      { drive := fun _ g => ⟨by simp, g.dark, g.paid, g.mark⟩
        duty := fun _ => Nat.zero_le _ }

theorem currentTest_keeps (im : Nat) (h : Keeps o s t) : Keeps o s (currentTest im t) := by
  unfold currentTest
  by_cases lit : t.lamp.state = .lit
  · rw [if_neg (by simp [lit])]
    split
    · exact socketFails_keeps _ lit h
    · split
      · split
        · exact socketFails_keeps _ lit h
        · exact h.of_lamp {}
      · exact h.of_lamp {}
  · rw [if_pos lit]
    exact h.of_lamp {}

theorem usagePeriod_ok (driven : Bool) {u : Usage} (h : usageOk u) : usageOk (usagePeriod driven u) := by
  obtain ⟨dark, seconds, minutes, starts⟩ := h
  unfold usagePeriod
  split
  · refine ⟨Nat.zero_le _, seconds, minutes, ?_⟩
    dsimp only
    split
    · exact Nat.lt_succ_of_le (satInc_le 65535 _)
    · exact starts
  · exact ⟨satInc_le _ _, seconds, minutes, starts⟩

theorem usagePeriod_grows (driven : Bool) {u : Usage} (h : usageOk u) :
    u.minutes ≤ (usagePeriod driven u).minutes ∧ u.starts ≤ (usagePeriod driven u).starts := by
  obtain ⟨-, -, -, starts⟩ := h
  unfold usagePeriod
  split
  · refine ⟨Nat.le_refl _, ?_⟩
    dsimp only
    split
    · exact le_satInc (Nat.le_of_lt_succ starts)
    · exact Nat.le_refl _
  · exact ⟨Nat.le_refl _, Nat.le_refl _⟩

theorem countUsage_keeps (h : Keeps o s t) : Keeps o s (countUsage t) :=
  h.of_lamp
    { counts := fun g => ⟨usagePeriod_ok _ g.1, usagePeriod_ok _ g.2⟩
      usage := fun _ g =>
        have primary := usagePeriod_grows (decide (t.lamp.active = .primary) && decide (0 < t.lamp.duty)) g.1
        have spare := usagePeriod_grows (decide (t.lamp.active = .spare) && decide (0 < t.lamp.duty)) g.2
        ⟨primary.1, primary.2, spare.1, spare.2⟩ }

theorem handDuty_keeps (h : Keeps o s t) : Keeps o s (handDuty t) :=
  h.of_power { smooth := fun g => ⟨g.smoothed, g.duty⟩ }

/-! ### Changes of power state that reach the lamp and the show (R86 to R91) -/

theorem shutdownFromOn_keeps (cause : Nat) (h : Keeps o s t) : Keeps o s (shutdownFromOn cause t) :=
  testShutdown_keeps (offRequest_keeps _ _ (requestStop_keeps
    (setPower_keeps _ _ (fun _ _ => powerSafe_of_on_or_shutdown (.inr rfl) _) h)))

theorem leaveRunup_keeps (cause : Nat) (runup : t.power.state = .runup) (h : Keeps o s t) :
    Keeps o s (leaveRunup cause t) := by
  unfold leaveRunup
  split
  · exact testShutdown_keeps (requestStop_keeps
      (setPower_keeps _ _ (fun _ _ => powerSafe_of_on_or_shutdown (.inr rfl) _) h))
  · rename_i paid
    exact setPower_keeps _ _ (fun _ g => ⟨fun _ => g.dark (.inr runup), fun _ => by simpa using paid⟩) h

theorem returnToOn_keeps (cause : Nat) (h : Keeps o s t) : Keeps o s (returnToOn cause t) :=
  (setPower_keeps _ _ (fun _ _ => powerSafe_of_on_or_shutdown (.inl rfl) _) h).of_power
    { drive := fun _ g => ⟨g.lit, g.dark, fun _ => rfl, g.mark⟩, cooldown := fun _ => Nat.zero_le _ }

theorem supplyGood_keeps (h : Keeps o s t) : Keeps o s (supplyGood t) :=
  setPower_keeps _ _ (fun _ _ => powerSafe_of_on_or_shutdown (.inl rfl) _) h

theorem runupReading_keeps (vs : Nat) (h : Keeps o s t) : Keeps o s (runupReading vs t) := by
  unfold runupReading
  dsimp only
  split
  · exact h
  · split
    · split
      · exact supplyGood_keeps (h.of_power {})
      · exact h.of_power {}
    · exact h.of_power {}

theorem enterRunup_keeps (cause : Nat) (standby : t.power.state = .standby) (h : Keeps o s t) :
    Keeps o s (setPower .runup cause t) :=
  setPower_keeps _ _ (fun _ g => ⟨fun _ => g.dark (.inl standby), nofun⟩) h

theorem powerOnRequest_keeps (cause : Nat) (h : Keeps o s t) : Keeps o s (powerOnRequest cause t).1 := by
  unfold powerOnRequest
  split
  · exact enterRunup_keeps _ ‹_› h
  · exact returnToOn_keeps _ h
  · exact h

theorem powerOffRequest_keeps (cause : Nat) (h : Keeps o s t) : Keeps o s (powerOffRequest cause t).1 := by
  unfold powerOffRequest
  split
  · exact leaveRunup_keeps _ ‹_› h
  · exact shutdownFromOn_keeps _ h
  · exact h

theorem powerKeyPressed_keeps (h : Keeps o s t) : Keeps o s (powerKeyPressed t) := by
  unfold powerKeyPressed
  split
  · exact enterRunup_keeps _ ‹_› h
  · exact leaveRunup_keeps _ ‹_› h
  · exact shutdownFromOn_keeps _ h
  · exact returnToOn_keeps _ h

end Sys2Proof.Machine
end

section
/-! PROOFS. `Keeps` through the handset logic and the line unit's operations that reach it. -/

namespace Sys2Proof.Machine

set_option Elab.async false

variable {o : List Open} {s t : State}

/-! ### The keys (R170 to R176) -/

/-- The entry is replaced: its timer is restarted by the press that replaces it, or the entry is empty (R174). -/
theorem setEntry_keeps {e : List Nat} (short : e.length ≤ 3) (timed : e = [] ∨ .entry ∈ o) (h : Keeps o s t) :
    Keeps o s (setEntry e t) :=
  h.of_handset
    { digits := fun _ => short
      entry := fun n _ => timed.elim (fun empty filled => absurd empty filled) (fun m => absurd m n) }

theorem appendDigit_length_le (d : Nat) (e : List Nat) : (appendDigit d e).length ≤ 3 := by
  unfold appendDigit
  split <;> simp <;> omega

theorem keyGo_keeps (h : Keeps o s t) : Keeps o s (keyGo t) := by
  have emptied : Keeps o s (setEntry [] t) := setEntry_keeps (by simp) (.inl rfl) h
  unfold keyGo
  dsimp only
  split
  · exact showErr_keeps h
  · split
    · exact showErr_keeps emptied
    · exact postHandset_keeps _ emptied

theorem keyRunHold_keeps (h : Keeps o s t) : Keeps o s (keyRunHold t) := by
  unfold keyRunHold
  split
  · exact requestStart_keeps h
  · exact requestHold_keeps h
  · exact requestResume_keeps h
  · exact showErr_keeps h

theorem keyLamp_keeps (h : Keeps o s t) : Keeps o s (keyLamp t) := by
  unfold keyLamp
  split
  · dsimp only
    split
    · exact lampOn_keeps h
    · exact showErr_keeps (lampOn_keeps h)
  · exact h.of_handset {}
  · exact h.of_handset {}
  · exact showErr_keeps h

theorem keyEffect_keeps (k : Key) (later : .entry ∈ o) (h : Keeps o s t) : Keeps o s (keyEffect t k) := by
  cases k with
  | advance => exact postHandset_keeps _ h
  | reverse => exact postHandset_keeps _ h
  | focusIn => exact h
  | focusOut => exact h
  | go => exact keyGo_keeps h
  | clear => exact clearJam_keeps (setEntry_keeps (by simp) (.inl rfl) h)
  | runHold => exact keyRunHold_keeps h
  | lamp => exact keyLamp_keeps h
  | digit d => exact setEntry_keeps (appendDigit_length_le _ _) (.inr later) h

/-- A counted press leaves no digits without the entry timer (R174). -/
theorem pressKey_keeps (k : Key) (h : Keeps o s t) : Keeps o s (pressKey k t) := by
  have acted := keyEffect_keeps k List.mem_cons_self
    ((h.opens .entry).of_handset (x := { t.handset with errTimer := none }) {})
  have restarted : Keeps (.entry :: o) s (pressKey k t) := acted.of_handset { entry := fun n => absurd List.mem_cons_self n }
  exact restarted.closes fun _ _ filled => by
    rw [pressKey, restartEntryTimer] at filled ⊢
    dsimp only at filled ⊢
    rw [if_neg filled]
    rfl

/-! ### Reports (R168, R169, R176) -/

theorem repeatAt_keeps (pressed : Bool) (r : HandsetReport) (h : Keeps o s t) : Keeps o s (repeatAt pressed r t) := by
  unfold repeatAt
  split
  · split
    · split
      · exact h.of_handset { hold := fun _ _ => rfl }
      · exact h
    · exact h.of_handset { hold := fun _ => nofun }
  · exact h.of_handset { hold := fun _ => nofun }

theorem recordReport_keeps (r : HandsetReport) (h : Keeps o s t) : Keeps o s (recordReport r t) := h.of_handset {}

theorem handsetReport_keeps (r : HandsetReport) (h : Keeps o s t) : Keeps o s (handsetReport r t) := by
  have recorded := recordReport_keeps r h
  unfold handsetReport
  refine focusReport_keeps _ (repeatAt_keeps _ _ ?_)
  split
  · split
    · split
      · exact pressKey_keeps _ recorded
      · exact recorded
    · exact recorded
  · exact recorded

theorem handsetRoleChange_keeps (h : Keeps o s t) : Keeps o s (handsetRoleChange t) :=
  focusReport_keeps _ (h.of_handset
    { digits := fun _ => Nat.zero_le _, entry := fun _ _ filled => absurd rfl filled, hold := fun _ => nofun })

/-! ### A report leaves a line that is not idle where it is -/

/-- A broadcast is queued or dropped: only an idle lead sends at once (R155, R156). -/
theorem announce_line_state (m : LineMsg) (busy : s.line.state ≠ .idle) : (announce m s).line.state = s.line.state := by
  unfold announce postBroadcast chooseFrame postDropped
  (repeat' split) <;> simp_all

theorem keyRunHold_line_state (busy : s.line.state ≠ .idle) : (keyRunHold s).line.state = s.line.state := by
  unfold keyRunHold requestHold requestResume
  (repeat' split) <;> simp [announce_line_state, busy]

theorem pressKey_line_state (k : Key) (busy : s.line.state ≠ .idle) : (pressKey k s).line.state = s.line.state := by
  cases k <;> simp [pressKey, keyEffect, keyRunHold_line_state, busy]

theorem handsetReport_line_state (r : HandsetReport) (busy : s.line.state ≠ .idle) :
    (handsetReport r s).line.state = s.line.state := by
  unfold handsetReport
  dsimp only
  (repeat' split) <;> simp [pressKey_line_state, busy]

/-- An unanswered poll reaches nothing of the line unit (R168). -/
@[simp] theorem handsetReport_none_line (s : State) : (handsetReport none s).line = s.line := by
  simp [handsetReport_of_uncounted (r := none) rfl]

/-! ### Leaving the powered states (R148 to R151) -/

@[simp] theorem lineWithoutFollowers_line_state (s : State) :
    (lineWithoutFollowers s).line.state = s.line.state ∧ (lineWithoutFollowers s).line.role = s.line.role := by
  have posted : ∀ (ms : List LineMsg) (u : State), (postAllDropped ms u).line = u.line := fun ms u => by simp
  have dropped : ∀ (n : Nat) (u : State),
      (dropStation n u).line.state = u.line.state ∧ (dropStation n u).line.role = u.line.role := by
    intro n u
    obtain ⟨role, state, -⟩ := setStation_frame u.line n { stationOf u.line n with present := false, misses := 0 }
    unfold dropStation
    dsimp only
    split <;> simp [role, state]
  simp [lineWithoutFollowers, dropBroadcasts, dropStations, dropped]

/-- The state entered as the powered states are left (R151). -/
@[simp] theorem leavePowered_line_state (st : LineState) (s : State) :
    (leavePowered st s).line.state = st ∧ (leavePowered st s).line.role = s.line.role := by
  unfold leavePowered
  dsimp only
  split <;> simp [abandonLine]

theorem leavePowered_keeps {st : LineState} (lead : t.line.state ≠ .listening) (away : st ≠ .listening)
    (later : .line ∈ o) (fault : st = .lineFault → .flag .lineFault ∈ o) (h : Keeps o s t) :
    Keeps o s (leavePowered st t) := by
  have left : Keeps o s (handsetReport none { t with line := abandonLine st t.line }) :=
    handsetReport_keeps none (h.of_line
      { buffers := fun g => ⟨g.1, Nat.zero_le _⟩
        role := fun _ g => ⟨g.role, by simpa [abandonLine, lead, away] using g.state⟩
        waits := fun n => absurd later n
        fault := fun n e => absurd (fault e) n })
  unfold leavePowered
  dsimp only
  split
  · exact left
  · exact lineWithoutFollowers_keeps left

theorem enterOff_keeps (lead : .role ∉ o → RoleAgrees t → t.line.state ≠ .listening) (h : Keeps o s t) :
    Keeps o s (enterOff t) :=
  h.of_line
    { role := fun n g => ⟨g.role, by simpa [lead n g] using g.state⟩
      waits := fun _ _ => ⟨fun _ => rfl, nofun, nofun, nofun, nofun, nofun, nofun⟩
      fault := fun _ => nofun }

/-- The line waits in the state entered, whatever was left open before. -/
theorem Keeps.enteredOff (h : Keeps (.line :: o) s (enterOff t)) : Keeps o s (enterOff t) :=
  h.closes fun _ _ => ⟨fun _ => rfl, nofun, nofun, nofun, nofun, nofun, nofun⟩

theorem Keeps.enteredDetect (h : Keeps (.line :: o) s (enterDetect t)) : Keeps o s (enterDetect t) :=
  h.closes fun _ _ => ⟨nofun, fun _ => rfl, nofun, nofun, nofun, nofun, nofun⟩

/-- The line waits for its retry, or for a reset, once an overcurrent is counted (R148). -/
theorem Keeps.of_overcurrent {st : LineState} (h : Keeps (.line :: o) s t) (entered : t.line.state = st)
    (down : st = .retryWait ∨ st = .lineFault) (n : Nat) (quiet retry : Option Nat)
    (timed : st = .retryWait → retry.isSome = true) :
    Keeps o s { t with line := { t.line with overcurrents := n, quiet := quiet, retry := retry } } := by
  have counted : Keeps (.line :: o) s { t with line := { t.line with overcurrents := n, quiet := quiet, retry := retry } } :=
    h.of_line { waits := fun m => absurd List.mem_cons_self m }
  refine counted.closes fun _ _ => ⟨?_, ?_, ?_, ?_, ?_, ?_, ?_⟩ <;>
    rcases down with rfl | rfl <;> simp_all [LineState.powered]

theorem overcurrent_keeps (lead : t.line.state ≠ .listening) (h : Keeps o s t) : Keeps o s (overcurrent t) := by
  unfold overcurrent
  dsimp only
  split
  · exact (leavePowered_keeps lead (st := .retryWait) (by decide) List.mem_cons_self nofun (h.opens .line)).of_overcurrent
      (leavePowered_line_state _ _).1 (.inl rfl) _ _ _ fun _ => rfl
  · have left := leavePowered_keeps lead (st := .lineFault) (by decide) List.mem_cons_self
      (fun _ => List.mem_cons_of_mem _ List.mem_cons_self) ((h.opens (.flag .lineFault)).opens .line)
    have counted := left.of_overcurrent (leavePowered_line_state _ _).1 (.inr rfl) (t.line.overcurrents + 1)
      (startTimer tenSeconds t) (leavePowered .lineFault t).line.retry nofun
    exact (setFlag_keeps .lineFault (postGate_keeps _ _ _ _ _ counted)).closes fun _ _ => .inr (flagOn_setFlag_self _ _)

theorem noAnswer_keeps (lead : t.line.state ≠ .listening) (h : Keeps o s t) : Keeps o s (noAnswer t) :=
  have left := leavePowered_keeps lead (st := .detect) (by decide) List.mem_cons_self nofun (h.opens .line)
  (enterDetect_keeps (by simp) left).enteredDetect

theorem turnOff_keeps (lead : t.line.state ≠ .listening) (h : Keeps o s t) :
    Keeps o s (enterOff (leavePowered .off t)) :=
  have left := leavePowered_keeps lead (st := .off) (by decide) List.mem_cons_self nofun (h.opens .line)
  (enterOff_keeps (fun _ _ => by simp) left).enteredOff

theorem not_listening_of_powered {l : LineState} (h : l.powered = true) : l ≠ .listening := by
  rintro rfl
  cases h

theorem lineReset_keeps (h : Keeps o s t) : Keeps o s (lineReset t).1 := by
  have cleared : Keeps o s { t with line := { t.line with overcurrents := 0, quiet := none } } := h.of_line {}
  unfold lineReset
  split
  · exact h
  · rename_i lead
    dsimp only
    split
    · rename_i fault
      exact enterDetect_keeps (by simp [fault]) cleared
    · split
      · rename_i up
        exact turnOff_keeps (not_listening_of_powered up) cleared
      · exact enterOff_keeps (fun _ g e => absurd (lead.symm.trans (g.state.mpr e)) (by decide)) cleared

/-! ### The end of a poll exchange (R154, R160) -/

theorem reportData_keeps (n : Nat) (d : List Byte) (h : Keeps o s t) : Keeps o s (reportData n d t) := by
  unfold reportData
  split
  · exact handsetReport_keeps _ h
  · exact h

theorem reportData_line_state (n : Nat) (d : List Byte) (busy : s.line.state ≠ .idle) :
    (reportData n d s).line.state = s.line.state := by
  unfold reportData
  split
  · exact handsetReport_line_state _ busy
  · rfl

theorem goodReply_keeps (n : Nat) (d : List Byte) (h : Keeps o s t) : Keeps o s (goodReply n d t) :=
  reportData_keeps n d ((h.of_station n (st := { present := true, misses := 0, last := some d }) (Nat.zero_le _)).of_line
    { buffers := fun g => ⟨g.1, by
        have same := (setStation_frame t.line n { present := true, misses := 0, last := some d }).2.2.2.1
        have := g.2
        dsimp only at this ⊢
        rw [same] at this
        simp only [List.length_drop]
        omega⟩
      waits := fun _ g => ⟨g.off, g.detect, g.powering, g.sending, g.awaiting, g.retry, fun p n => ⟨rfl, (g.up p n).2⟩⟩ })

theorem goodReply_line_state (n : Nat) (d : List Byte) (busy : s.line.state ≠ .idle) :
    (goodReply n d s).line.state = s.line.state := by
  have state := (setStation_frame s.line n { present := true, misses := 0, last := some d }).2.1
  unfold goodReply
  dsimp only
  rw [reportData_line_state _ _ (by simpa [state] using busy)]
  exact state

theorem missedReply_keeps (n : Nat) (h : Keeps o s t) : Keeps o s (missedReply n t) := by
  have missed : ∀ st : Station, st.misses ≤ 255 → Keeps o s { t with line := { setStation t.line n st with
      pollList := t.line.pollList.drop 1 } } := fun st hm =>
    (h.of_station n hm).of_line { buffers := fun g => ⟨g.1, by
        have same := (setStation_frame t.line n st).2.2.2.1
        have := g.2
        dsimp only at this ⊢
        rw [same] at this
        simp only [List.length_drop]
        omega⟩ }
  unfold missedReply
  dsimp only
  split
  · exact handsetReport_keeps _ (missed _ (satInc_le _ _))
  · split
    · exact stationLost_keeps _ _ (missed _ (satInc_le _ _))
    · exact missed _ (satInc_le _ _)

theorem missedReply_line_state (n : Nat) : (missedReply n s).line.state = s.line.state := by
  unfold missedReply
  dsimp only
  (repeat' split) <;> simp [(setStation_frame s.line n _).2.1]

theorem takeReply_keeps (rx : LineRx) (n : Nat) (receiving : t.line.state = .receiving) (h : Keeps o s t) :
    Keeps o s (takeReply rx n t) := by
  have idle : ∀ u : State, u.line.state = .receiving → Keeps o s u → Keeps o s (enterIdle u) := fun u e hu =>
    enterIdle_keeps (by simp [e]) (fun g => g.up (by simp [e, LineState.powered]) (by simp [e])) hu
  have good : ∀ d, Keeps o s (enterIdle (goodReply n d t)) := fun d =>
    idle _ (by rw [goodReply_line_state _ _ (by simp [receiving]), receiving]) (goodReply_keeps _ _ h)
  have missed : Keeps o s (enterIdle (missedReply n t)) :=
    idle _ (by rw [missedReply_line_state, receiving]) (missedReply_keeps _ h)
  unfold takeReply
  split
  · split
    · exact good _
    · exact missed
  · exact missed
  · exact (missedReply_keeps n h).of_line {}

/-! ### Changes of the line settings (R144, R161) -/

/-- The line unit restarts in the role in force, in a state that agrees with it, whatever its role was (R144). -/
theorem restartLine_keeps {r : Role} (inForce : r = lineRole t.path.settings) (h : Keeps (.role :: o) s t) :
    Keeps o s (restartLine r t) := by
  have restarted := (h.weaken (o' := .role :: .line :: o) (by simp; tauto)).of_line
    (l := { abandonLine (match r with | .lead => .off | .follower => .listening) t.line with
      role := r, discharge := none, detectPeriod := none, detectCount := 0, overcurrents := 0, quiet := none, retry := none,
      syncDue := false, handset := absentStation, follower1 := absentStation, follower2 := absentStation,
      follower3 := absentStation, offset := none, syncHeld := false, syncWatch := none })
    { buffers := fun g => ⟨g.1, Nat.zero_le _⟩
      counts := fun g => ⟨g.1, Nat.zero_le _, Nat.zero_le _, Nat.zero_le _, Nat.zero_le _⟩
      role := fun n => absurd List.mem_cons_self n
      waits := fun n => absurd (List.mem_cons_of_mem _ List.mem_cons_self) n
      fault := fun _ => by cases r <;> nofun }
  have dropped := dropBroadcasts_keeps restarted
  unfold restartLine
  cases r with
  | lead =>
    have off := (enterOff_keeps (fun n => absurd List.mem_cons_self n) dropped).closes (x := .role) fun _ _ =>
      ⟨by simpa [dropBroadcasts] using inForce, by simp [dropBroadcasts]⟩
    exact off.enteredOff
  | follower =>
    have listening := dropped.closes (x := .role) fun _ _ =>
      ⟨by simpa [dropBroadcasts] using inForce, by simp [dropBroadcasts, abandonLine]⟩
    exact listening.closes fun _ _ => by
      refine ⟨?_, ?_, ?_, ?_, ?_, ?_, ?_⟩ <;> simp [dropBroadcasts, abandonLine, LineState.powered]

theorem roleChange_keeps {r : Role} (inForce : r = lineRole t.path.settings) (h : Keeps (.role :: o) s t) :
    Keeps o s (roleChange r t) := handsetRoleChange_keeps (restartLine_keeps inForce h)

theorem keepPolls_length_le (count : Nat) (l : Line) : (keepPolls count l).length ≤ l.pollList.length := by
  unfold keepPolls
  split
  · split
    · exact Nat.zero_le _
    · simpa [*] using List.length_filter_le _ _
  · exact List.length_filter_le _ _

theorem followerCountChange_keeps (old : Nat) (h : Keeps o s t) : Keeps o s (followerCountChange old t) := by
  have forgotten : ∀ due : Bool, Keeps o s { t with line := { forgetAbove (followerCount t.path.settings) t.line with
      pollList := keepPolls (followerCount t.path.settings) t.line, syncDue := due } } := fun due =>
    h.of_line
      { buffers := fun g => ⟨g.1, (keepPolls_length_le _ _).trans g.2⟩
        counts := fun g => by
          obtain ⟨errors, handset, first, second, third⟩ := g
          refine ⟨errors, handset, ?_, ?_, ?_⟩ <;> simp only [forgetAbove] <;> split <;>
            simp_all [absentStation] }
  unfold followerCountChange
  dsimp only
  split
  · exact forgotten false
  · split
    · exact chooseFrame_keeps (forgotten true)
    · exact forgotten t.line.syncDue

end Sys2Proof.Machine
end

section
/-! PROOFS. `Keeps` through the cue engine's commands. -/

namespace Sys2Proof.Machine

set_option Elab.async false

variable {o : List Open} {s t : State}

/-! ### Taking and resolving (R10 to R13) -/

/-- The lookahead finds loaded entries only (R11). -/
theorem lookup_found_loaded {n : Word} {j disabled : Nat} :
    ∀ {fuel i d k}, lookup s n i fuel d k = .found j disabled → entryLoaded s j = true := by
  intro fuel
  induction fuel with
  | zero => intro i d k found; simp [lookup] at found
  | succ fuel ih =>
    intro i d k found
    unfold lookup at found
    dsimp only at found
    split at found
    · cases found
    · rename_i loaded
      split at found
      · exact ih found
      · split at found
        · cases found
          simpa using loaded
        · exact ih found

/-- An ADVANCE executes loaded entries only (R12). -/
theorem candidate_loaded {j : Nat} : ∀ {fuel i}, candidate s i fuel = some j → entryLoaded s j = true := by
  intro fuel
  induction fuel with
  | zero => intro i found; simp [candidate] at found
  | succ fuel ih =>
    intro i found
    unfold candidate at found
    split at found
    · cases found
    · rename_i loaded
      split at found
      · exact ih found
      · cases found
        simpa using loaded

theorem entriesInForce_of_path {t u : State} (same : u.path = t.path) : entriesInForce u = entriesInForce t := by
  unfold entriesInForce
  rw [same]

theorem inForce_of_loaded {j : Nat} (h : entryLoaded s j = true) : j < entriesInForce s := by
  simp only [entryLoaded, Bool.and_eq_true, decide_eq_true_eq] at h
  exact h.1

/-- A cue is taken only with no change cycle in flight (R10). -/
theorem not_cycling_of_takeReady (ready : takeReady s = true) (h : CycleOwned s) : s.transport.state ≠ .cycling := by
  simp only [takeReady, Bool.and_eq_true] at ready
  obtain ⟨-, free⟩ := ready
  cases cue : s.engine.cue with
  | none => exact fun cycling => by simpa [cue] using h.own.mp cycling
  | some e =>
    simp only [cue, Bool.and_eq_true, Bool.not_eq_true'] at free
    exact fun cycling => by simpa [free.2] using (h.cycling_iff cue).mp cycling

/-- The executing cue ends while no cycle is in flight. -/
theorem completeCue_keeps_idle (e : Executing) (idle : .owned ∉ o → CycleOwned s → t.transport.state ≠ .cycling)
    (h : Keeps o s t) : Keeps o s (completeCue e t) :=
  (completeCue_keeps e (fun n => absurd List.mem_cons_self n) (h.opens .owned)).closes fun n g =>
    cycleOwned_of_none (by simp) (by simpa using idle n g)

theorem cutFade_keeps (idle : .owned ∉ o → CycleOwned s → t.transport.state ≠ .cycling) (h : Keeps o s t) :
    Keeps o s (cutFade t) := by
  unfold cutFade
  split
  · exact h
  · exact (noExecuting_keeps (fun n => absurd List.mem_cons_self n) (postGate_keeps _ _ _ _ _ (h.opens .owned))).closes
      fun n g => cycleOwned_of_none rfl (by simpa using idle n g)

theorem checkDrift_keeps (src : CueSource) (p : Plan) (h : Keeps o s t) : Keeps o s (checkDrift src p t) := by
  unfold checkDrift
  split
  · split
    · exact postGate_keeps _ _ _ _ _ h
    · exact h
  · exact h

/-! ### The start of an execution (R18 to R22) -/

theorem endShow_keeps (n : Nat) (h : Keeps o s t) : Keeps o s (endShow n t) :=
  setRunState_keeps _ (clearQueue_keeps (fadeAudioOut_keeps (deckRequest_keeps (by split <;> decide)
    (engineRampUnowned_keeps _ _ h))))

theorem holdRunning_keeps (h : Keeps o s t) : Keeps o s (holdRunning t) := by
  unfold holdRunning
  split
  · exact deckRequest_keeps (by decide) (setRunState_keeps _ h)
  · exact h

theorem entryAudio_keeps (p : Plan) (h : Keeps o s t) : Keeps o s (entryAudio p t) := by
  unfold entryAudio
  split
  · exact h
  · split
    · exact h
    · exact audioRamp_keeps _ _ h

/-- A cue starts with no cycle of its own, and with none in flight (R18, R19). -/
theorem startAction_keeps {e : Executing}
    (fresh : .owned ∉ o → CycleOwned s → t.transport.state ≠ .cycling ∧ e.cycle = false ∧ e.stopping = false)
    (h : Keeps o s t) : Keeps o s (startAction e t) := by
  have idle : .owned ∉ o → CycleOwned s → t.transport.state ≠ .cycling := fun n g => (fresh n g).1
  have change : Keeps o s (enterFadingOut e t) := enterFadingOut_keeps fresh (h.opens .owned)
  unfold startAction
  split
  · exact completeCue_keeps_idle _ idle h
  · exact completeCue_keeps_idle _ idle h
  · exact completeCue_keeps_idle _ (by simpa using idle) (holdRunning_keeps h)
  · exact completeCue_keeps_idle _ (by simpa using idle) (endShow_keeps _ h)
  · exact enterFadingIn_keeps (fun n g => by simp [fresh n g]) (h.opens .owned)
  · exact change
  · exact change
  · exact change

/-- The executing cue becomes `e`, a cue with no cycle of its own, while none is in flight. -/
theorem Keeps.of_fresh_cue {e : Executing} (waiting : e.phase = .waiting)
    (fresh : .owned ∉ o → CycleOwned s → t.transport.state ≠ .cycling ∧ e.cycle = false ∧ e.stopping = false)
    (h : Keeps o s t) : Keeps o s { t with engine := { t.engine with cue := some e } } :=
  ((h.opens .owned).of_cue _ List.mem_cons_self).closes fun n g => by
    obtain ⟨idle, cycle, run⟩ := fresh n g
    exact cycleOwned_of_some rfl ⟨by simp [cycle], by simp [waiting], by simp [run]⟩ (by simp [cycle, idle])

theorem startCue_keeps {e : Executing} (waiting : e.phase = .waiting)
    (fresh : .owned ∉ o → CycleOwned s → t.transport.state ≠ .cycling ∧ e.cycle = false ∧ e.stopping = false)
    (h : Keeps o s t) : Keeps o s (startCue e t) := by
  have acts : ∀ u : State, u.transport = t.transport → Keeps o s u →
      Keeps o s (startAction { e with startUs := t.clock.micros } (entryAudio e.plan
        { u with engine := { u.engine with cue := some { e with startUs := t.clock.micros } } })) := by
    intro u same hu
    rw [← same] at fresh
    exact startAction_keeps (by simpa using fresh)
      (entryAudio_keeps _ (hu.of_fresh_cue (e := { e with startUs := t.clock.micros }) waiting fresh))
  unfold startCue
  dsimp only
  split
  · exact acts { t with engine := { t.engine with lastCue := e.plan.cueNo } } rfl (h.of_engine {})
  · exact acts t rfl h

/-! ### From a taken cue to its execution (R14 to R18, R27) -/

theorem checkLate_keeps (c : Cue) (cueNo : Word) (start : Clock32) (h : Keeps o s t) :
    Keeps o s (checkLate c cueNo start t) := by
  unfold checkLate
  dsimp only
  split
  · exact postGate_keeps _ _ _ _ _ h
  · exact h

theorem learnPlacement_keeps (c : Cue) (p : Plan) (h : Keeps o s t) : Keeps o s (learnPlacement c p t) := by
  unfold learnPlacement
  split
  · split
    · exact postGate_keeps _ _ _ _ _ h
    · dsimp only
      split
      · exact placeFrame_keeps _ _ _ _ h
      · exact postGate_keeps _ _ _ _ _ (placeFrame_keeps _ _ _ _ h)
  · exact h

theorem beginExecution_keeps (c : Cue) (p : Plan) (msg : Option LineMsg)
    (idle : .owned ∉ o → CycleOwned s → t.transport.state ≠ .cycling) (h : Keeps o s t) :
    Keeps o s (beginExecution c p msg t) := by
  unfold beginExecution
  extract_lets announced start e s1 engine s2 s3 s4
  have fresh : ∀ u : State, u.transport = t.transport → .owned ∉ o → CycleOwned s →
      u.transport.state ≠ .cycling ∧ e.cycle = false ∧ e.stopping = false := fun u same n g =>
    ⟨by rw [same]; exact idle n g, rfl, rfl⟩
  have waits : Keeps o s s2 := (cutFade_keeps idle h).of_fresh_cue rfl (fresh (cutFade t) (by simp))
  have told : Keeps o s s3 := by
    simp only [s3]
    split
    · exact announce_keeps _ waits
    · exact waits
  have logged : Keeps o s s4 := checkLate_keeps _ _ _ (learnPlacement_keeps _ _ told)
  have still : s4.transport = t.transport := by
    simp only [s4, s3, s2, s1]
    split <;> simp
  split
  · exact startCue_keeps rfl (fresh _ still) logged
  · exact logged

theorem takeEntry_keeps (c : Cue) {j : Nat} (loaded : entryLoaded t j = true)
    (idle : .owned ∉ o → CycleOwned s → t.transport.state ≠ .cycling) (h : Keeps o s t) : Keeps o s (takeEntry c j t) := by
  have moved : Keeps o s { t with engine := { t.engine with pointer := j + 1 } } :=
    h.of_pointer (inForce_of_loaded loaded)
  unfold takeEntry
  dsimp only
  split
  · exact postGate_keeps _ _ _ _ _ moved
  · refine beginExecution_keeps _ _ _ (by simpa using idle) (checkDrift_keeps _ _ moved)

theorem takeNumbered_keeps (c : Cue) (n : Word) (idle : .owned ∉ o → CycleOwned s → t.transport.state ≠ .cycling)
    (h : Keeps o s t) : Keeps o s (takeNumbered c n t) := by
  unfold takeNumbered
  split
  · exact h
  · dsimp only
    split
    · exact postGate_keeps _ _ _ _ _ h
    · rename_i j disabled found
      have loaded := lookup_found_loaded found
      split
      · refine takeEntry_keeps _ ?_ (by simpa using idle) (postGate_keeps _ _ _ _ _ h)
        rw [entryLoaded] at loaded ⊢
        rw [entriesInForce_of_path (t := t) (by simp)]
        simpa using loaded
      · exact takeEntry_keeps _ loaded idle h

theorem takeAdvance_keeps (c : Cue) (idle : .owned ∉ o → CycleOwned s → t.transport.state ≠ .cycling)
    (h : Keeps o s t) : Keeps o s (takeAdvance c t) := by
  unfold takeAdvance
  dsimp only
  split
  · exact beginExecution_keeps _ _ _ idle h
  · split
    · exact takeEntry_keeps _ (candidate_loaded ‹_›) idle h
    · exact beginExecution_keeps _ _ _ idle h

theorem takeGoto_keeps (c : Cue) (slot : Nat) (idle : .owned ∉ o → CycleOwned s → t.transport.state ≠ .cycling)
    (h : Keeps o s t) : Keeps o s (takeGoto c slot t) := by
  unfold takeGoto
  split
  · exact postGate_keeps _ _ _ _ _ h
  · exact beginExecution_keeps _ _ _ idle h

theorem resolveCue_keeps (c : Cue) (idle : .owned ∉ o → CycleOwned s → t.transport.state ≠ .cycling)
    (h : Keeps o s t) : Keeps o s (resolveCue c t) := by
  unfold resolveCue
  split
  · exact takeNumbered_keeps _ _ idle h
  · exact takeAdvance_keeps _ idle h
  · exact beginExecution_keeps _ _ _ idle h
  · exact takeGoto_keeps _ _ idle h
  · exact holdRunning_keeps (announce_keeps _ h)
  · exact endShow_keeps _ (announce_keeps _ (cutFade_keeps idle h))

/-! ### The commands CUE_TAKE and CUE_START -/

/-- A command's outcome keeps every invariant. -/
def KeepsNext (s : State) (r : Host.Outcome State Fault Refusal) : Prop := ∀ t, r = .next t → Keeps [] s t

theorem Keeps.next (h : Keeps [] s t) : KeepsNext s (.next t) := fun _ e => by
  cases e
  exact h

theorem execCueTake_keeps (s : State) : KeepsNext s (execCueTake s) := by
  refine Keeps.next ?_
  have start := Keeps.refl [] s
  split
  · rename_i ready
    have idle : CycleOwned s → s.transport.state ≠ .cycling := not_cycling_of_takeReady ready
    split
    · rename_i c rest queued
      have taken : Keeps [] s { s with engine := { s.engine with queue := rest } } := start.of_engine
        { queue := fun g => by
            have := g.cues
            rw [queued, List.length_cons] at this
            exact (Nat.le_succ _).trans this }
      exact resolveCue_keeps c (fun _ g => idle g) taken
    · exact start
  · exact start

theorem execCueStart_keeps (s : State) : KeepsNext s (execCueStart s) := by
  refine Keeps.next ?_
  split
  · rename_i e cue
    split
    · rename_i waiting
      refine startCue_keeps waiting (fun _ g => ?_) (Keeps.refl [] s)
      have cycle : e.cycle = false := by
        cases c : e.cycle
        · rfl
        · simpa [waiting] using (g.sound cue).phases c
      have run : e.stopping = false := by
        cases c : e.stopping
        · rfl
        · simpa [cycle] using (g.sound cue).stopping c
      exact ⟨by simpa [cycle] using g.cycling_iff cue, cycle, run⟩
    · exact Keeps.refl [] s
  · exact Keeps.refl [] s

end Sys2Proof.Machine
end

section
/-! PROOFS. `Keeps` through the slide transport's commands (R32 to R55). -/

namespace Sys2Proof.Machine

set_option Elab.async false

variable {o : List Open} {s t : State}

/-! ### The tray's move (R31 to R35, R49) -/

/-- In a cycle the move, its timers and its counts change, and what is left waits for a timer that runs. -/
theorem Keeps.of_move (h : Keeps o s t) (cycling : t.transport.state = .cycling) {move : Option Move}
    {stepTimer stallTimer : Option Nat} {stepCount position : Option Nat} {stalls : Nat}
    (pause : MoveTimed t.transport → ∀ v, move = some v → v.status = .paused → stallTimer.isSome = true)
    (step : MoveTimed t.transport → ∀ v, move = some v → stepOwed t.transport v → stepTimer.isSome = true) :
    Keeps o s { t with transport := { t.transport with
      move := move, stepTimer := stepTimer, stallTimer := stallTimer, stepCount := stepCount, position := position
      stalls := stalls } } :=
  h.of_transport
    { settled := fun _ g =>
        ⟨g.phase, fun x => absurd cycling x, g.seat, g.target, fun x => by simp [cycling] at x, g.lost⟩
      moves := fun _ _ g => ⟨g.cam, g.seat, pause g, step g⟩ }

/-- A stepping move waits for its next step (R32). -/
theorem awaitStep_keeps {v : Move} (cycling : t.transport.state = .cycling) (stepping : v.status = .stepping)
    (h : Keeps o s t) : Keeps o s (awaitStep v t) :=
  h.of_move cycling (fun _ x e p => by cases e; simp [stepping] at p) fun _ _ _ _ => rfl

theorem searchStep_keeps {v : Move} (cycling : t.transport.state = .cycling) (stepping : v.status = .stepping)
    (search : v.search = true) (h : Keeps o s t) : Keeps o s (searchStep v t) := by
  unfold searchStep
  dsimp only
  split
  · rename_i exhausted
    refine h.of_move cycling (fun _ x e p => ?_) fun _ x e owed => ?_
    · cases e
      simp [stepping] at p
    · cases e
      have := owed.2
      simp only [search, if_true] at this
      omega
  · exact awaitStep_keeps cycling stepping h

theorem moveStep_keeps {v : Move} (cycling : t.transport.state = .cycling) (stepping : v.status = .stepping)
    (move : v.search = false) (h : Keeps o s t) : Keeps o s (moveStep v t) := by
  have stepped : ∀ n, Keeps o s { t with transport := { t.transport with stepCount := n } } := fun n =>
    h.of_move cycling (fun g => g.pause) fun g => g.step
  unfold moveStep
  dsimp only
  split
  · rename_i ended
    have done : ∀ x, some { v with remaining := v.remaining - 1, done := v.done + 1 } = some x →
        ¬ stepOwed t.transport x := fun x e owed => by
      cases e
      have := owed.2
      simp [move, ended] at this
    refine moveEnded_keeps done ((stepped _).of_move cycling (fun _ x e p => ?_) fun _ x e owed => absurd owed (done x e))
    cases e
    simp [stepping] at p
  · exact awaitStep_keeps cycling stepping (stepped _)

theorem dueStep_keeps {v : Move} (cycling : t.transport.state = .cycling) (stepping : v.status = .stepping)
    (h : Keeps o s t) : Keeps o s (dueStep v t) := by
  unfold dueStep
  split
  · exact h.of_move cycling (fun _ x e p => by cases e; cases p) fun _ x e owed => by cases e; cases owed.1
  · split
    · exact searchStep_keeps cycling stepping ‹_› h
    · exact moveStep_keeps cycling stepping (by simpa using ‹¬ v.search = true›) h

theorem stall_keeps (v : Move) (cycling : t.transport.state = .cycling) (h : Keeps o s t) : Keeps o s (stall v t) := by
  unfold stall
  dsimp only
  split
  · exact jam_keeps _ (h.of_move cycling (fun g => g.pause) fun g => g.step)
  · exact h.of_move cycling (fun _ _ _ _ => rfl) fun _ x e owed => by cases e; cases owed.1

/-- A move begins, or resumes, with no stall pause before it (R31, R34). -/
theorem restartMove_keeps (v : Move) (cycling : t.transport.state = .cycling) (h : Keeps o s t) :
    Keeps o s (beginMove .suspended v { t with transport := { t.transport with stallTimer := none } }) := by
  have timed := beginMove_timed (.inr rfl) v { t with transport := { t.transport with stallTimer := none } }
  obtain ⟨v', timer, e, -⟩ := beginMove_spec .suspended v { t with transport := { t.transport with stallTimer := none } }
  rw [e] at timed ⊢
  exact h.of_move cycling (fun _ x hx => (timed x hx).1) fun _ x hx => (timed x hx).2

/-- The move that is replaced does not count. -/
theorem replaceMove_of_move (old : MoveStatus) (v : Move) (x : Option Move) (s : State) :
    replaceMove old v { s with transport := { s.transport with move := x } } = replaceMove old v s := rfl

/-- A move of known length takes the place of one in status `old`; in the stall pause it waits as that one did (R35, R49). -/
theorem replaceMove_keeps {old : MoveStatus} {v : Move} (cycling : t.transport.state = .cycling) (leg : v.search = false)
    (paused : .transport ∉ o → TransportSettled s → MoveTimed s.transport → old = .paused →
      t.transport.stallTimer.isSome = true)
    (h : Keeps o s { t with transport := { t.transport with move := none } }) : Keeps o s (replaceMove old v t) := by
  rw [← replaceMove_of_move old v none]
  generalize hu : { t with transport := { t.transport with move := none } } = u at h ⊢
  have cyc : u.transport.state = .cycling := by simpa [← hu] using cycling
  have timer : u.transport.stallTimer = t.transport.stallTimer := by simp [← hu]
  unfold replaceMove
  split
  · rename_i ended
    have done : ∀ x, some { v with status := .stepping } = some x → ¬ stepOwed u.transport x := fun x e owed => by
      cases e
      have := owed.2
      simp [leg, ended] at this
    exact moveEnded_keeps done (h.of_move cyc (fun _ x e p => by cases e; cases p) fun _ x e owed => absurd owed (done x e))
  · split
    · rename_i inPause
      have waits : Keeps (.transport :: o) s (setMove { v with status := .paused, done := 0 } u) :=
        (h.opens .transport).of_transport
          { settled := fun n => absurd List.mem_cons_self n, moves := fun n => absurd List.mem_cons_self n }
      refine waits.closes fun n g => ?_
      have set := h.settled n g
      refine ⟨⟨set.phase, fun x => absurd cyc x, set.seat, set.target, set.ready, set.lost⟩, fun timed => ?_⟩
      have m := h.moves n g timed
      exact ⟨m.cam, m.seat, fun _ _ _ => timer ▸ paused n g timed inPause, fun x e owed => by cases e; cases owed.1⟩
    · exact beginMove_keeps (.inr rfl) _ (fun _ _ => cyc) h

theorem endSearch_keeps {v : Move} (cycling : s.transport.state = .cycling) (move : s.transport.move = some v) :
    Keeps o s (endSearch v s) :=
  replaceMove_keeps (by exact cycling) rfl (fun _ _ timed e => timed.pause v move e)
    ((Keeps.refl o s).of_move cycling (fun _ => nofun) fun _ => nofun)

theorem postTraySlip_keeps (e : Int) (h : Keeps o s t) : Keeps o s (postTraySlip e t) :=
  setFlag_keeps _ (post_keeps _ _ _ _ _ _ h)

/-- The count is corrected at the index, and what remains of the move waits as the move did (R35). -/
theorem resync_keeps {v : Move} (cycling : s.transport.state = .cycling) (move : s.transport.move = some v)
    (leg : v.search = false) (moving : inProgress v = true) : Keeps o s (resync v s) := by
  have slipped : ∀ e : Int, Keeps o s (if -8 ≤ e ∧ e ≤ 8 then s else postTraySlip e s) := by
    intro e
    split
    · exact .refl o s
    · exact postTraySlip_keeps e (.refl o s)
  have same : ∀ e : Int, (if -8 ≤ e ∧ e ≤ 8 then s else postTraySlip e s).transport = s.transport := by
    intro e
    split <;> simp
  unfold resync
  extract_lets half e s1 corrected s2 left
  have tr : s1.transport = s.transport := same e
  have kept : Keeps o s s1 := slipped e
  have cyc : s1.transport.state = .cycling := by rw [tr, cycling]
  have bare : Keeps o s { s2 with transport := { s2.transport with move := none } } :=
    kept.of_move cyc (fun _ => nofun) fun _ => nofun
  have paused : .transport ∉ o → TransportSettled s → MoveTimed s.transport → v.status = .paused →
      s2.transport.stallTimer.isSome = true := fun _ _ timed e => by
    simpa [s2, corrected, tr] using timed.pause v move e
  split
  · exact replaceMove_keeps cyc rfl paused bare
  · split
    · exact replaceMove_keeps (v := { v with remaining := 0 }) cyc leg paused bare
    · refine kept.of_move cyc (fun timed x e p => ?_) fun timed x e owed => ?_
      · cases e
        exact timed.pause v (by rw [tr, move]) p
      · cases e
        refine timed.step v (by rw [tr, move]) ⟨owed.1, ?_⟩
        simp only [inProgress, leg, Bool.false_or, Bool.and_eq_true, decide_eq_true_eq] at moving
        simpa [leg] using moving.2

/-! ### The cam (R36 to R42) -/

theorem wakeMove_keeps (cycling : .transport ∉ o → TransportSettled t → t.transport.state = .cycling)
    (h : Keeps o s t) : Keeps o s (wakeMove t) := by
  unfold wakeMove
  split
  · split
    · exact beginMove_keeps (.inr rfl) _ cycling h
    · exact h
  · exact h

theorem reachPark_keeps (lift : t.transport.phase = .lift) (h : Keeps o s t) : Keeps o s (reachPark t) := by
  unfold reachPark
  split
  · exact enterDrop_keeps (fun _ => by simp [lift]) h
  · exact h.of_transport
      { settled := fun _ g =>
          have cycling : t.transport.state = .cycling := g.phase.mpr (by simp [lift])
          ⟨by simp [cycling], fun x => absurd cycling x, nofun, g.target, g.ready, g.lost⟩
        moves := fun _ _ g => ⟨nofun, nofun, g.pause, g.step⟩ }

theorem camAdvanced_keeps (tab : CamTable) (a b : Nat) (cycling : t.transport.phase ≠ .none) (h : Keeps o s t) :
    Keeps o s (camAdvanced tab a b t) := by
  have woken := wakeMove_keeps (fun _ g => g.phase.mpr cycling) h
  unfold camAdvanced
  dsimp only
  split
  · exact jam_keeps _ h
  · refine focusGuard_keeps ?_
    split
    · rename_i park
      exact reachPark_keeps park.1 woken
    · exact woken

/-- A running cam turns; one at rest in SEAT or READY does not (R36, R43, R45). -/
theorem Keeps.of_count (h : Keeps o s t) (running : t.transport.camRunning = true) (a : Nat) :
    Keeps o s { t with transport := { t.transport with camAngle := some a } } :=
  h.of_transport
    { settled := fun _ g => ⟨g.phase, g.still, fun x => by simp [(g.seat x).1] at running, g.target,
        fun x => by
          have := (g.still (by
            simp only at x
            simp [x])).1
          simp [this] at running, g.lost⟩ }

theorem Keeps.of_index (h : Keeps o s t) : Keeps o s { t with transport := { t.transport with camAngle := some 0 } } :=
  h.of_transport
    { settled := fun _ g => ⟨g.phase, g.still, fun x => ⟨(g.seat x).1, rfl⟩, g.target, fun x => ⟨rfl, (g.ready x).2⟩, g.lost⟩ }

theorem endCamHome_keeps (camHome : t.transport.phase = .camHome) (h : Keeps o s t) : Keeps o s (endCamHome t) := by
  refine startNormal_keeps _ (fun n g => ?_) ((h.opens .transport).of_transport
    { settled := fun n => absurd List.mem_cons_self n, moves := fun n => absurd List.mem_cons_self n })
  have settled := h.settled n g
  have cycling := settled.phase.mpr (by simp [camHome])
  exact ⟨cycling, settled.target cycling⟩

theorem focusGuard_cam (s : State) : (focusGuard s).transport.camAngle = s.transport.camAngle ∧
    (focusGuard s).transport.phase = s.transport.phase := by
  unfold focusGuard
  split <;> simp [stopFocus]

/-! ### The gate and the tray sensor (R43, R44, R46, R52, R53) -/

theorem enterRetry_keeps (seat : t.transport.phase = .seat) (h : Keeps o s t) : Keeps o s (enterRetry t) := by
  have retried : Keeps (.transport :: o) s { t with transport := { t.transport with
      phase := .retry, retried := true, seatTimer := none } } :=
    (h.opens .transport).of_transport
      { settled := fun n => absurd List.mem_cons_self n, moves := fun n => absurd List.mem_cons_self n }
  refine focusGuard_keeps ((startRevolution_keeps (fun n => absurd List.mem_cons_self n) retried).closes fun n g => ?_)
  have settled := h.settled n g
  have cycling := settled.phase.mpr (by simp [seat])
  refine ⟨⟨?_, fun x => absurd cycling x, nofun, settled.target, settled.ready, settled.lost⟩, fun m => ?_⟩
  · simpa [startRevolution] using cycling
  · have timed := h.moves n g m
    exact ⟨fun _ => rfl, nofun, timed.pause, timed.step⟩

theorem emptyGate_keeps (seat : .transport ∉ o → TransportSettled s → AtSeat t)
    (sound : .owned ∉ o → CycleOwned s → ∀ e, t.engine.cue = some e → CueSound e)
    (h : Keeps (.owned :: .transport :: o) s t) : Keeps o s (emptyGate t) :=
  completeCycle_keeps (by simpa [AtSeat] using seat) (by simpa using sound) (post_keeps _ _ _ _ _ _ h)

theorem enterNoTray_keeps (idle : .owned ∉ o → CycleOwned t → t.transport.state ≠ .cycling) (h : Keeps o s t) :
    Keeps o s (enterNoTray t) :=
  h.of_transport
    { drive := fun _ g => ⟨g.lit, fun e => ⟨(g.dark e).1, nofun⟩, g.paid, g.mark⟩
      settled := fun _ _ => ⟨by simp [stopMotors], fun _ => ⟨rfl, rfl, rfl, rfl, rfl⟩, nofun, nofun, nofun, fun _ => rfl⟩
      moves := fun _ _ _ => moveTimed_of_still rfl rfl rfl
      owned := fun n g =>
        ⟨⟨nofun, fun x => absurd (g.own.mpr x) (idle n g)⟩, g.phases, g.changing, g.stopping⟩
      jammed := nofun }

theorem postTrayPulled_keeps (h : Keeps o s t) : Keeps o s (postTrayPulled t) :=
  setFlag_keeps _ (postGate_keeps _ _ _ _ _ h)

/-! ### The commands of the transport -/

theorem execTrayStep_keeps (s : State) : KeepsNext s (execTrayStep s) := by
  refine Keeps.next ?_
  split
  · split
    · rename_i cycling _ stepping
      exact dueStep_keeps cycling stepping.2 (.refl [] s)
    · exact .refl [] s
  · exact .refl [] s

theorem execHomingSearchExhausted_keeps (s : State) : KeepsNext s (execHomingSearchExhausted s) := by
  refine Keeps.next ?_
  split
  · exact jam_keeps _ (.refl [] s)
  · exact .refl [] s

theorem execStallSensed_keeps (s : State) : KeepsNext s (execStallSensed s) := by
  refine Keeps.next ?_
  split
  · split
    · rename_i cycling _ _
      exact stall_keeps _ cycling (.refl [] s)
    · exact .refl [] s
  · exact .refl [] s

theorem execStallPauseEnd_keeps (s : State) : KeepsNext s (execStallPauseEnd s) := by
  refine Keeps.next ?_
  split
  · split
    · rename_i cycling _ _
      exact restartMove_keeps _ cycling (.refl [] s)
    · exact .refl [] s
  · exact .refl [] s

theorem execTrayIndexEdge_keeps (s : State) : KeepsNext s (execTrayIndexEdge s) := by
  refine Keeps.next ?_
  split
  · rename_i v cycling move
    split
    · exact .refl [] s
    · rename_i moving
      split
      · exact endSearch_keeps cycling move
      · rename_i leg
        exact resync_keeps cycling move (by simpa using leg) (by simpa using moving)
  · exact .refl [] s

theorem execCamEncoderCount_keeps (s : State) : KeepsNext s (execCamEncoderCount s) := by
  refine Keeps.next ?_
  split
  · rename_i a running angle
    have counted := (Keeps.refl [] s).of_count running ((a + 1) % 180)
    dsimp only
    split
    · exact counted
    · exact counted
    · rename_i inCycle _
      exact camAdvanced_keeps _ _ _ inCycle counted
    · exact counted
  · exact .refl [] s

theorem execCamIndexEdge_keeps (s : State) : KeepsNext s (execCamIndexEdge s) := by
  have indexed := (Keeps.refl [] s).of_index
  have seats : s.transport.phase = .drop ∨ s.transport.phase = .retry → Keeps [] s (enterSeat (focusGuard
      { s with transport := { s.transport with camAngle := some 0 } })) := fun phase =>
    enterSeat_keeps (focusGuard_cam _).1
      (fun _ g => g.phase.mpr (by
        rw [(focusGuard_cam _).2]
        rcases phase with e | e <;> simp [e]))
      (focusGuard_keeps indexed)
  refine Keeps.next ?_
  split
  · exact focusGuard_keeps indexed
  · split
    · rename_i camHome
      exact endCamHome_keeps (by exact camHome) indexed
    · exact seats (.inl ‹_›)
    · exact seats (.inr ‹_›)
    · exact focusGuard_keeps indexed

theorem execCamTimeout_keeps (s : State) : KeepsNext s (execCamTimeout s) := by
  refine Keeps.next ?_
  split
  · exact jam_keeps _ (.refl [] s)
  · exact .refl [] s

theorem execSeatTimeout_keeps (s : State) : KeepsNext s (execSeatTimeout s) := by
  have start : Keeps [.owned, .transport] s s := .refl _ s
  refine Keeps.next ?_
  split
  · rename_i seat
    split
    · exact seatMade_keeps (fun _ g => g.atSeat seat.2) (fun _ g _ => g.sound) start
    · exact emptyGate_keeps (fun _ g => g.atSeat seat.2) (fun _ g _ => g.sound) start
    · split
      · exact jam_keeps _ (.refl [] s)
      · exact enterRetry_keeps seat.2 (.refl [] s)
  · exact .refl [] s

theorem execGateChange_keeps (g : GateReading) (s : State) : KeepsNext s (execGateChange g s) := by
  have read : Keeps [] s { s with transport := { s.transport with gate := g } } := (Keeps.refl [] s).of_transport {}
  refine Keeps.next ?_
  split
  · rename_i seat
    exact seatMade_keeps (fun _ g => g.atSeat seat.2.1) (fun _ g _ => g.sound) ((read.opens .transport).opens .owned)
  · exact read

theorem execTrayRemoved_keeps (s : State) : KeepsNext s (execTrayRemoved s) := by
  refine Keeps.next ?_
  split
  · have pulled := enterNoTray_keeps (fun n => absurd List.mem_cons_self n)
      (postTrayPulled_keeps ((Keeps.refl [] s).opens .owned))
    exact testShutdown_keeps (abortCycle_keeps
      (fun _ g => ⟨by simp [enterNoTray], fun e he => g.sound (by simpa using he)⟩) pulled)
  · rename_i ready
    split
    · exact enterNoTray_keeps (fun _ _ => by simp [ready]) (.refl [] s)
    · exact enterNoTray_keeps (fun _ _ => by simp [ready]) (postTrayPulled_keeps (.refl [] s))
  · exact enterNoTray_keeps (fun _ _ => by simp [*]) (.refl [] s)
  · exact enterNoTray_keeps (fun _ _ => by simp [*]) (.refl [] s)
  · exact .refl [] s

theorem execTrayInserted_keeps (s : State) : KeepsNext s (execTrayInserted s) := by
  refine Keeps.next ?_
  split
  · rename_i empty
    exact (Keeps.refl [] s).of_transport
      { drive := fun _ g => ⟨g.lit, fun e => ⟨(g.dark e).1, nofun⟩, g.paid, g.mark⟩
        settled := fun _ g => ⟨by simpa [empty] using g.phase, fun _ => g.still (by simp [empty]), g.seat, nofun, nofun,
          fun _ => g.lost (by simp [empty])⟩
        owned := fun _ g => ⟨by simpa [empty] using g.own, g.phases, g.changing, g.stopping⟩
        jammed := nofun }
  · exact .refl [] s

theorem execFocusAllowanceSpent_keeps (s : State) : KeepsNext s (execFocusAllowanceSpent s) := by
  refine Keeps.next ?_
  split
  · exact (Keeps.refl [] s).of_transport { focus := fun _ n => absurd rfl n }
  · exact .refl [] s

end Sys2Proof.Machine
end

section
/-! PROOFS. `Keeps` through the cue-track decoder, the deck's commands and the writer's cells (R104 to R132). -/

namespace Sys2Proof.Machine

set_option Elab.async false

variable {o : List Open} {s t : State}

/-! ### The decoder (R116 to R128) -/

/-- The cell estimate and the run in assembly are in range (R118, R121). -/
structure CellInRange (d : Decoder) : Prop where
  cell : 1500 ≤ d.cell ∧ d.cell ≤ 2500
  run : d.runCount ≤ 7
  sum : 1500 * d.runCount ≤ d.runSum ∧ d.runSum ≤ 2500 * d.runCount

/-- What an update of the decoder alone has to show. -/
structure DecoderKeeps (d d' : Decoder) : Prop where
  range : DecoderInRange d → DecoderInRange d' := by exact fun h => ⟨h.edges, h.bits, h.chars⟩
  errors : d.errors ≤ 255 → d'.errors ≤ 255 := by exact id
  overflows : d.overflows ≤ 255 → d'.overflows ≤ 255 := by exact id
  cell : CellInRange d → CellInRange d' := by exact fun h => ⟨h.cell, h.run, h.sum⟩
  on : d'.state = .off ↔ d.state = .off := by exact Iff.rfl
  timed : d.passTimer.isSome = true → d'.passTimer.isSome = true := by exact id

theorem Keeps.of_decoder {d : Decoder} (h : Keeps o s t) (k : DecoderKeeps t.decoder d) :
    Keeps o s { t with decoder := d } :=
  h.of_tape
    { decoder := k.range, errors := k.errors, overflows := k.overflows
      cell := fun g => have c := k.cell ⟨g.cell, g.run, g.sum⟩; ⟨c.cell, c.run, c.sum⟩
      timed := fun _ g => ⟨g.brake, g.request, g.watch, g.second, g.cells, by simpa [k.on] using g.decoder,
        fun on => k.timed (g.pass (by simpa [k.on] using on))⟩ }

/-- Hunting, the decoder has nothing in assembly (R118). -/
theorem enterHunt_keeps (r : Option Clock32) {d : Decoder} (on : d.state ≠ .off) : DecoderKeeps d (enterHunt r d) where
  range h := ⟨h.edges, Nat.zero_le _, Nat.zero_le _⟩
  cell h := ⟨h.cell, by simp [enterHunt], by simp [enterHunt]⟩
  on := by simp [enterHunt, on]

theorem DecoderKeeps.trans {a b c : Decoder} (h : DecoderKeeps a b) (k : DecoderKeeps b c) : DecoderKeeps a c :=
  ⟨fun x => k.range (h.range x), fun x => k.errors (h.errors x), fun x => k.overflows (h.overflows x),
    fun x => k.cell (h.cell x), k.on.trans h.on, fun x => k.timed (h.timed x)⟩

theorem frameError_keeps {d : Decoder} (on : d.state ≠ .off) : DecoderKeeps d (frameError d) :=
  DecoderKeeps.trans (b := countFrameError d) { errors := fun _ => satInc_le _ _ } (enterHunt_keeps _ on)

theorem huntTake_keeps (i : Nat) {d : Decoder} (on : d.state ≠ .off) : DecoderKeeps d (huntTake i d) := by
  unfold huntTake
  split
  · split
    · exact {}
    · rename_i first _
      split
      · rename_i fits
        split
        · rename_i eighth
          refine { cell := fun h => ⟨?_, by simp, by simp⟩, on := by simp [on] }
          have := h.run
          have := h.sum
          have : d.runCount = 7 := by omega
          simp only
          omega
        · refine { cell := fun h => ⟨h.cell, by simp only; omega, ?_⟩ }
          have := h.sum
          simp only
          omega
      · exact { cell := fun h => ⟨h.cell, by simp, by simp⟩ }
  · exact { cell := fun h => ⟨h.cell, by simp, by simp⟩ }

theorem preambleTake_keeps (i : Nat) {d : Decoder} (on : d.state ≠ .off) : DecoderKeeps d (preambleTake i d) := by
  unfold preambleTake
  split
  · exact {}
  · exact { on := by simp [on] }
  · exact enterHunt_keeps _ on
  · exact enterHunt_keeps _ on

theorem syncTake_keeps (i : Nat) {d : Decoder} (on : d.state ≠ .off) : DecoderKeeps d (syncTake i d) := by
  unfold syncTake
  split
  · exact { range := fun h => ⟨h.edges, Nat.zero_le _, Nat.zero_le _⟩, on := by simp [on] }
  · exact enterHunt_keeps _ on
  · exact enterHunt_keeps _ on
  · exact enterHunt_keeps _ on

theorem trailerTake_keeps (i : Nat) {d : Decoder} (on : d.state ≠ .off) : DecoderKeeps d (trailerTake i d) := by
  unfold trailerTake
  split
  · exact {}
  · exact (enterHunt_keeps _ on).trans (huntTake_keeps _ (by simp [enterHunt]))
  · exact enterHunt_keeps _ on
  · exact enterHunt_keeps _ on

theorem timeMark_keeps {n : Nat} (hn : n ≤ 65535) (h : Keeps o s t) : Keeps o s (timeMark n t) :=
  h.of_tape
    { tape := fun g => ⟨g.1, fun x e => by cases e; exact hn⟩
      timed := fun _ g => ⟨g.brake, g.request, g.watch, fun m => by
        simp only at m
        rcases m with e | e <;> simp [secondFor, e], g.cells, g.decoder, g.pass⟩ }

theorem deliver_keeps (f : CueFrame) (h : Keeps o s t) : Keeps o s (deliver f t) := by
  unfold deliver
  split
  · exact postCue_keeps _ _ _ h
  · exact timeMark_keeps (Nat.le_of_lt_succ (frameNumber f.data).isLt) h

/-- A completed frame leaves nothing in assembly, whatever its last character made of it (R123). -/
theorem completeFrame_keeps (f : CueFrame) (c : Clock32) (on : t.decoder.state ≠ .off) (h : Keeps o s t) :
    Keeps o s (completeFrame f c t) := by
  have cleared : ∀ a e, (t.decoder.errors ≤ 255 → e ≤ 255) → Keeps o s { t with decoder := { t.decoder with
      state := .trailer, half := none, bits := [], chars := [], accepted := a, errors := e } } := fun a e he =>
    h.of_decoder
      { range := fun g => ⟨g.edges, Nat.zero_le _, Nat.zero_le _⟩, errors := he, on := by simp [on] }
  unfold completeFrame
  dsimp only
  split
  · exact cleared t.decoder.accepted _ fun _ => satInc_le _ _
  · split
    · exact cleared t.decoder.accepted t.decoder.errors id
    · exact deliver_keeps _ (cleared _ t.decoder.errors id)

theorem completeFrame_of_assembly (f : CueFrame) (c : Clock32) (bits : List Bool) (chars : List Byte) (s : State) :
    completeFrame f c { s with decoder := { s.decoder with bits := bits, chars := chars } } = completeFrame f c s := rfl

theorem headerCount_le (b : Byte) : headerCount b ≤ 3 := Nat.le_of_lt_succ (Nat.mod_lt _ (by decide))

theorem takeBit_keeps (b : Bool) (c : Clock32) (on : t.decoder.state ≠ .off) (h : Keeps o s t) :
    Keeps o s (takeBit b c t) := by
  unfold takeBit
  dsimp only
  split
  · exact h.of_decoder (frameError_keeps on)
  · split
    · rename_i short
      exact h.of_decoder { range := fun g => ⟨g.edges, by simp only; omega, g.chars⟩ }
    · split
      · exact h.of_decoder (frameError_keeps on)
      · split
        · exact h
        · rename_i header data chars
          split
          · rw [completeFrame_of_assembly]
            exact completeFrame_keeps _ _ on h
          · rename_i more
            refine h.of_decoder { range := fun g => ⟨g.edges, Nat.zero_le _, ?_⟩ }
            have := headerCount_le header
            simp only [chars, List.length_cons]
            omega

theorem completeBit_keeps (b : Bool) (m : Nat) (c : Clock32) (on : t.decoder.state ≠ .off) (h : Keeps o s t) :
    Keeps o s (completeBit b m c t) :=
  takeBit_keeps _ _ on (h.of_decoder { cell := fun g => ⟨clamp_bounds (by decide) _, g.run, g.sum⟩ })

theorem dataTake_keeps (i : Nat) (c : Clock32) (on : t.decoder.state ≠ .off) (h : Keeps o s t) :
    Keeps o s (dataTake i c t) := by
  unfold dataTake
  split
  · exact h.of_decoder {}
  · exact completeBit_keeps _ _ _ on h
  · exact completeBit_keeps _ _ _ on h
  · exact h.of_decoder (frameError_keeps on)

theorem takeInterval_keeps (i : Nat) (c : Clock32) (h : Keeps o s t) : Keeps o s (takeInterval i c t) := by
  unfold takeInterval
  split
  · exact h
  · exact h.of_decoder (huntTake_keeps _ (by simp [*]))
  · exact h.of_decoder (preambleTake_keeps _ (by simp [*]))
  · exact h.of_decoder (syncTake_keeps _ (by simp [*]))
  · exact dataTake_keeps _ _ (by simp [*]) h
  · exact h.of_decoder (trailerTake_keeps _ (by simp [*]))

theorem takeEdge_keeps (c : Clock32) (h : Keeps o s t) : Keeps o s (takeEdge c t) := by
  have referred : Keeps o s { t with decoder := { t.decoder with reference := some c } } := h.of_decoder {}
  unfold takeEdge
  dsimp only
  split
  · exact referred
  · exact takeInterval_keeps _ _ referred

theorem takeEdges_keeps (cs : List Clock32) (h : Keeps o s t) : Keeps o s (takeEdges cs t) := by
  induction cs generalizing t with
  | nil => exact h
  | cons c cs ih => exact ih (takeEdge_keeps c h)

theorem stalenessTest_keeps (now : Clock32) (d : Decoder) : DecoderKeeps d (stalenessTest now d) := by
  unfold stalenessTest
  split
  · split
    · exact frameError_keeps (by simp [*])
    · exact enterHunt_keeps _ (by simp [*])
    · exact enterHunt_keeps _ (by simp [*])
    · exact enterHunt_keeps _ (by simp [*])
    · exact {}
    · exact {}
  · exact {}

theorem decodePass_keeps (h : Keeps o s t) : Keeps o s (decodePass t) := by
  have emptied : Keeps o s { t with decoder := { t.decoder with ring := [] } } :=
    h.of_decoder { range := fun g => ⟨Nat.zero_le _, g.bits, g.chars⟩ }
  exact (takeEdges_keeps t.decoder.ring emptied).of_decoder (stalenessTest_keeps _ _)

theorem storeEdge_inRange (c : Clock32) {d : Decoder} (h : DecoderInRange d) : DecoderInRange (storeEdge c d) := by
  unfold storeEdge
  split
  · exact ⟨by simp only [List.length_append, List.length_singleton]; omega, h.bits, h.chars⟩
  · exact ⟨by simp only [List.length_append, List.length_drop, List.length_singleton]; omega, Nat.zero_le _, Nat.zero_le _⟩

theorem storeEdge_counts (c : Clock32) {d : Decoder} :
    (storeEdge c d).errors = d.errors ∧ (d.overflows ≤ 255 → (storeEdge c d).overflows ≤ 255) ∧
      (storeEdge c d).passTimer = d.passTimer ∧ (d.state ≠ .off → (storeEdge c d).state ≠ .off) := by
  unfold storeEdge
  split
  · exact ⟨rfl, id, rfl, id⟩
  · exact ⟨rfl, fun _ => satInc_le _ _, rfl, fun _ => nofun⟩

theorem storeEdge_cell (c : Clock32) {d : Decoder} (h : CellInRange d) : CellInRange (storeEdge c d) := by
  unfold storeEdge
  split
  · exact ⟨h.cell, h.run, h.sum⟩
  · exact ⟨h.cell, by simp [enterHunt], by simp [enterHunt]⟩

/-! ### The commands of the deck and the cue track -/

/-- A locate is resolved into a mode other than BRAKING (R108). -/
theorem resolveLocate_eq (s : State) : ∃ m c, m ≠ .braking ∧
    resolveLocate s = setDeckMode m { s with deck := { s.deck with locate := c } } := by
  unfold resolveLocate
  split
  · exact ⟨_, s.deck.locate, by decide, rfl⟩
  · split
    · exact ⟨_, s.deck.locate, by decide, rfl⟩
    · split
      · exact ⟨_, s.deck.locate, by decide, rfl⟩
      · exact ⟨_, none, by decide, rfl⟩

/-- Braking ends in the mode that waited, with nothing left to wait for (R104, R108). -/
theorem endBraking_keeps (h : Keeps o s t) : Keeps o s (endBraking t) := by
  have released : Keeps (.deck :: o) s { t with deck := { t.deck with pending := none, brakeTimer := none } } :=
    (h.opens .deck).of_tape { timed := fun n => absurd List.mem_cons_self n }
  have entered : ∀ m (c : Option Int), (.deck ∉ o → DeckTimed t → m ≠ .braking) →
      Keeps o s (setDeckMode m { t with deck := { t.deck with pending := none, brakeTimer := none, locate := c } }) := by
    intro m c hm
    refine (setDeckMode_keeps m (released.of_locate c) fun n => absurd List.mem_cons_self n).closes fun n g => ?_
    have timed := h.deck n g
    have runs : DeckRuns { t with deck := { t.deck with pending := none, brakeTimer := none, locate := c } } :=
      ⟨nofun, timed.watch, timed.second, timed.cells, timed.decoder, timed.pass⟩
    exact (setDeckMode_runs m runs).timed fun e => absurd (by simpa using e) (hm n timed)
  unfold endBraking
  dsimp only
  split
  · rename_i m pending
    exact entered m t.deck.locate fun _ g e => g.request (by rw [pending, e])
  · obtain ⟨m, c, hm, e⟩ := resolveLocate_eq { t with deck := { t.deck with pending := none, brakeTimer := none } }
    rw [e]
    exact entered m c fun _ _ => hm
  · exact entered .stop t.deck.locate fun _ _ => by decide

theorem tapeEnded_keeps (h : Keeps o s t) : Keeps o s (tapeEnded t) :=
  holdAtTapeEnd_keeps (setFlag_keeps _ (postGate_keeps _ _ _ _ _ (startBraking_keeps (by decide) (h.of_locate none))))

theorem clampCounter_bounds (v : Int) : -2147483648 ≤ clampCounter v ∧ clampCounter v ≤ 2147483647 := by
  unfold clampCounter
  omega

theorem audioStage_inRange {d : Deck} (h : AudioInRange d) : AudioInRange (audioStage d) := by
  obtain ⟨level, start, target⟩ := h
  unfold audioStage
  dsimp only
  split
  · exact ⟨level, start, target⟩
  · split
    · rename_i below
      refine ⟨?_, start, target⟩
      have := (lerp_between (a := d.ramp.a0) (b := d.ramp.a1) (Nat.le_of_lt below)).2
      simp only
      omega
    · exact ⟨target, start, target⟩

theorem audioStage_frame (d : Deck) : audioStage d = { d with audio := (audioStage d).audio, ramp := (audioStage d).ramp } := by
  unfold audioStage
  dsimp only
  (repeat' split) <;> rfl

theorem execBrakeEnd_keeps (s : State) : KeepsNext s (execBrakeEnd s) := by
  refine Keeps.next ?_
  split
  · exact endBraking_keeps (.refl [] s)
  · exact .refl [] s

theorem execReelPulse_keeps (s : State) : KeepsNext s (execReelPulse s) := by
  refine Keeps.next ?_
  split
  · exact .refl [] s
  · refine setCounter_keeps (clampCounter_bounds _) ?_
    split
    · exact (Keeps.refl [] s).of_tape
        { timed := fun _ g => ⟨g.brake, g.request, fun _ => rfl, g.second, g.cells, g.decoder, g.pass⟩ }
    · exact .refl [] s

theorem execTapeEnd_keeps (s : State) : KeepsNext s (execTapeEnd s) := by
  have start := Keeps.refl [] s
  refine Keeps.next ?_
  split
  · exact setDeckMode_keeps' (by decide) (start.of_tape { tape := fun g => ⟨by simp, g.2⟩ })
  · exact tapeEnded_keeps start
  · exact tapeEnded_keeps start
  · exact tapeEnded_keeps start
  · exact start
  · exact start

theorem execTapeSecond_keeps (s : State) : KeepsNext s (execTapeSecond s) := by
  refine Keeps.next ?_
  split
  · refine (Keeps.refl [] s).of_tape
      { tape := fun g => ⟨g.1, fun x e => ?_⟩
        timed := fun _ g => ⟨g.brake, g.request, g.watch, fun _ => rfl, g.cells, g.decoder, g.pass⟩ }
    obtain ⟨y, -, rfl⟩ := Option.map_eq_some_iff.mp e
    exact satInc_le _ _
  · exact .refl [] s

theorem execAudioPeriod_keeps (s : State) : KeepsNext s (execAudioPeriod s) := by
  refine Keeps.next ?_
  have faded : Keeps [] s { s with deck := audioStage s.deck } := by
    have range := audioStage_inRange (d := s.deck)
    rw [audioStage_frame] at range ⊢
    exact (Keeps.refl [] s).of_tape { audio := range }
  exact faded.of_clock _

theorem execCueEdge_keeps (s : State) : KeepsNext s (execCueEdge s) := by
  refine Keeps.next ?_
  split
  · rename_i play
    obtain ⟨errors, overflows, timer, on⟩ := storeEdge_counts s.clock.micros (d := s.decoder)
    exact (Keeps.refl [] s).of_tape
      { decoder := storeEdge_inRange _, errors := by simp [errors], overflows := overflows
        cell := fun g => have c := storeEdge_cell _ ⟨g.cell, g.run, g.sum⟩; ⟨c.cell, c.run, c.sum⟩
        timed := fun _ g => ⟨g.brake, g.request, g.watch, g.second, g.cells,
          by simp [play, on (g.decoder.mp play)], fun _ => timer ▸ g.pass (g.decoder.mp play)⟩ }
  · exact .refl [] s

theorem execDecodePass_keeps (s : State) : KeepsNext s (execDecodePass s) := by
  refine Keeps.next ?_
  split
  · exact .refl [] s
  · exact decodePass_keeps ((Keeps.refl [] s).of_decoder { timed := fun _ => rfl })

/-- The slots that stand after a cell is complete are those but its own, now one nearer the pointer (R131). -/
theorem completeCell_clear {w : Writer} (pointer : w.pointer < 256) (sorted : assocSorted w.slots = true)
    (clear : ∀ c ∈ w.slots, c.1 < 256 ∧ (c.1 + 256 - w.pointer) % 256 < 248) :
    ∀ c ∈ (completeCell w).slots, c.1 < 256 ∧ (c.1 + 256 - (completeCell w).pointer) % 256 < 248 := by
  intro c hc
  have listed := assocGet_isSome_of_mem hc
  simp only [completeCell, assocGet_erase _ _ _ sorted] at listed hc ⊢
  have other : c.1 ≠ w.pointer := fun e => by simp [e] at listed
  have mem : c ∈ w.slots := by
    have sub : ∀ {m : Assoc Symbol} {x}, x ∈ assocErase m w.pointer → x ∈ m := by
      intro m x
      induction m with
      | nil => exact id
      | cons y m ih =>
        obtain ⟨i, v⟩ := y
        simp only [assocErase]
        split
        · exact List.mem_cons_of_mem _
        · simp only [List.mem_cons]
          exact Or.imp_right ih
    exact sub hc
  obtain ⟨below, within⟩ := clear c mem
  omega

theorem passMiddle_frame (w : Writer) :
    (passMiddle w).slots = w.slots ∧ (passMiddle w).pointer = w.pointer ∧ (passMiddle w).sequence = w.sequence ∧
      (passMiddle w).cellTimer = w.cellTimer := by
  unfold passMiddle
  split <;> simp

theorem completeCell_keeps (now : Nat) (record : t.deck.mode = .record) (h : Keeps o s t) :
    Keeps o s { t with writer := beginCell now (completeCell (passMiddle t.writer)) } := by
  obtain ⟨slots, pointer, sequence, -⟩ := passMiddle_frame t.writer
  exact h.of_tape
    { sorted := fun g => assocErase_sorted _ _ (slots ▸ g)
      clear := fun g => ⟨Nat.mod_lt _ (by decide), assocErase_sorted _ _ (slots ▸ g.sorted),
        completeCell_clear (pointer ▸ g.pointer) (slots ▸ g.sorted) (by rw [slots, pointer]; exact g.clear)⟩
      sequence := fun g => by simpa [beginCell, completeCell, sequence] using g
      timed := fun _ g => ⟨g.brake, g.request, g.watch, g.second, by simp [record, beginCell], g.decoder, g.pass⟩ }

theorem execCellBoundary_keeps (s : State) : KeepsNext s (execCellBoundary s) := by
  refine Keeps.next ?_
  split
  · exact completeCell_keeps _ ‹_› (.refl [] s)
  · exact .refl [] s

end Sys2Proof.Machine
end

section
/-! PROOFS. `Keeps` through the commands of the line, the handset, the lamp and the power unit. -/

namespace Sys2Proof.Machine

set_option Elab.async false

variable {o : List Open} {s t : State}

/-! ### The follower (R162 to R166) -/

theorem execFollowerPoll_keeps (addr : BitVec 3) (s : State) : KeepsNext s (execFollowerPoll addr s) := by
  refine Keeps.next ?_
  split
  · exact (Keeps.refl [] s).of_line {}
  · exact .refl [] s

theorem postStep_keeps (d : Int) (h : Keeps o s t) : Keeps o s (postStep d t) := by
  unfold postStep
  split
  · exact postGate_keeps _ _ _ _ _ h
  · exact h

theorem takeSync_keeps (lead here : Clock32) (h : Keeps o s t) : Keeps o s (takeSync lead here t) := by
  unfold takeSync
  dsimp only
  split
  · exact (postStep_keeps _ h).of_line {}
  · exact h.of_line {}

theorem execFollowerSync_keeps (lead : Clock32) (age : Nat) (s : State) : KeepsNext s (execFollowerSync lead age s) := by
  refine Keeps.next ?_
  split
  · exact takeSync_keeps _ _ (.refl [] s)
  · exact .refl [] s

theorem countLineError_keeps (h : Keeps o s t) : Keeps o s (countLineError t) :=
  h.of_line { counts := fun g => ⟨satInc_le _ _, g.2⟩ }

theorem takeBroadcast_keeps (f : LinkFrame) (h : Keeps o s t) : Keeps o s (takeBroadcast f t) := by
  unfold takeBroadcast
  split
  · split
    · exact countLineError_keeps h
    · exact postCue_keeps _ _ _ h
  · exact postCue_keeps _ _ _ h
  · exact postCue_keeps _ _ _ h
  · exact postCue_keeps _ _ _ h
  · exact postCue_keeps _ _ _ h

theorem execFollowerBroadcastCue_keeps (f : LinkFrame) (s : State) : KeepsNext s (execFollowerBroadcastCue f s) := by
  refine Keeps.next ?_
  split
  · exact takeBroadcast_keeps _ (.refl [] s)
  · exact .refl [] s

theorem execLinkStopFrame_keeps (s : State) : KeepsNext s (execLinkStopFrame s) := by
  refine Keeps.next ?_
  split
  · exact requestStop_keeps (.refl [] s)
  · exact .refl [] s

theorem execLinkResumeFrame_keeps (s : State) : KeepsNext s (execLinkResumeFrame s) := by
  refine Keeps.next ?_
  split
  · exact requestResume_keeps (.refl [] s)
  · exact .refl [] s

theorem execLineFrameError_keeps (s : State) : KeepsNext s (execLineFrameError s) := by
  refine Keeps.next ?_
  split
  · exact countLineError_keeps (.refl [] s)
  · exact .refl [] s

theorem execSyncLost_keeps (s : State) : KeepsNext s (execSyncLost s) := by
  have lost : Keeps [] s { s with line := { s.line with syncHeld := false, syncWatch := none } } :=
    (Keeps.refl [] s).of_line {}
  refine Keeps.next ?_
  split
  · dsimp only
    split
    · exact postGate_keeps _ _ _ _ _ lost
    · exact lost
  · exact .refl [] s

/-! ### The handset's timers (R173, R174, R176) -/

theorem execErrTimeout_keeps (s : State) : KeepsNext s (execErrTimeout s) := ((Keeps.refl [] s).of_handset {}).next

theorem execEntryTimeout_keeps (s : State) : KeepsNext s (execEntryTimeout s) := by
  refine Keeps.next ?_
  split
  · exact (Keeps.refl [] s).of_handset { digits := fun _ => Nat.zero_le _, entry := fun _ _ filled => absurd rfl filled }
  · exact .refl [] s

theorem execAutoRepeatHoldEnd_keeps (s : State) : KeepsNext s (execAutoRepeatHoldEnd s) := by
  have repeats : Keeps [] s { s with handset := { s.handset with autoRepeat := .repeating, holdTimer := none } } :=
    (Keeps.refl [] s).of_handset { hold := fun _ => nofun }
  refine Keeps.next ?_
  split
  · dsimp only
    split
    · exact postHandset_keeps _ repeats
    · exact repeats
  · exact .refl [] s

/-! ### The lamp controller (R58, R59, R65 to R82) -/

theorem execLampPeriod_keeps (vs im : Code10) (s : State) : KeepsNext s (execLampPeriod vs im s) :=
  (runupReading_keeps _ (handDuty_keeps (countUsage_keeps (dutyStage_keeps _ (currentTest_keeps _ (rampStage_keeps
    ((Keeps.refl [] s).of_clock _))))))).next

theorem execLampRampDone_keeps (s : State) : KeepsNext s (execLampRampDone s) := by
  refine Keeps.next ?_
  split
  · exact rampDone_keeps (.refl [] s)
  · exact .refl [] s

theorem execOpenFilament_keeps (s : State) : KeepsNext s (execOpenFilament s) := by
  refine Keeps.next ?_
  split
  · rename_i lit
    exact socketFails_keeps _ lit.1 (.refl [] s)
  · exact .refl [] s

theorem execLowSupply_keeps (vs : Code10) (s : State) : KeepsNext s (execLowSupply vs s) := by
  refine Keeps.next ?_
  split
  · exact postLowSupply_keeps _ ((Keeps.refl [] s).of_lamp {})
  · exact .refl [] s

theorem setSwitches_keeps (primary spare : Bool) (h : Keeps o s t) : Keeps o s (setSwitches primary spare t) := h.of_lamp {}

theorem execEndSwitchChange_keeps (primary spare : Bool) (s : State) :
    KeepsNext s (execEndSwitchChange primary spare s) := by
  have set := setSwitches_keeps primary spare (.refl [] s)
  refine Keeps.next ?_
  dsimp only
  split
  · rename_i swapping
    split
    · exact carriageArrived_keeps swapping set
    · exact set
  · rename_i lit
    split
    · exact set
    · exact startSwap_keeps _ _ (fun _ g => g.powered (by simp))
        (leaveLit_keeps lit (.inl rfl) (fun _ => List.mem_cons_self) nofun (set.opens .swap))
  · exact followCarriage_keeps set
  · exact followCarriage_keeps set

theorem execCarriageArrival_keeps (s : State) : KeepsNext s (execCarriageArrival s) := by
  have set := setSwitches_keeps (decide (s.lamp.active = .primary)) (decide (s.lamp.active = .spare)) (.refl [] s)
  refine Keeps.next ?_
  dsimp only
  split
  · exact carriageArrived_keeps ‹_› set
  · exact set

theorem execCarriageTimeout_keeps (s : State) : KeepsNext s (execCarriageTimeout s) := by
  have ended : Keeps [] s { s with lamp := { s.lamp with failureSwap := false } } := (Keeps.refl [] s).of_lamp {}
  refine Keeps.next ?_
  split
  · refine followCarriage_keeps (enterFault_keeps ?_ (setFlag_keeps _ (postNoLamp_keeps _ _ (ended.opens _))))
    simp [setFlag_flagOn, postNoLamp]
  · exact .refl [] s

theorem usageSecond_ok {u : Usage} (h : usageOk u) : usageOk (usageSecond u) := by
  obtain ⟨dark, seconds, minutes, starts⟩ := h
  unfold usageSecond
  split
  · exact ⟨dark, by simp, Nat.lt_succ_of_le (satInc_le 4294967295 _), starts⟩
  · exact ⟨dark, by simp only; omega, minutes, starts⟩

theorem usageSecond_grows {u : Usage} (h : usageOk u) :
    u.minutes ≤ (usageSecond u).minutes ∧ u.starts ≤ (usageSecond u).starts := by
  obtain ⟨-, -, minutes, -⟩ := h
  unfold usageSecond
  split
  · exact ⟨le_satInc (Nat.le_of_lt_succ minutes), Nat.le_refl _⟩
  · exact ⟨Nat.le_refl _, Nat.le_refl _⟩

theorem execUsageTick_keeps (s : State) : KeepsNext s (execUsageTick s) := by
  have burns : Keeps [] s { s with lamp := burnSecond s.lamp } := by
    unfold burnSecond
    cases s.lamp.active with
    | primary =>
      exact (Keeps.refl [] s).of_lamp
        { counts := fun g => ⟨usageSecond_ok g.1, g.2⟩
          usage := fun _ g => have grows := usageSecond_grows g.1; ⟨grows.1, grows.2, Nat.le_refl _, Nat.le_refl _⟩ }
    | spare =>
      exact (Keeps.refl [] s).of_lamp
        { counts := fun g => ⟨g.1, usageSecond_ok g.2⟩
          usage := fun _ g => have grows := usageSecond_grows g.2; ⟨Nat.le_refl _, Nat.le_refl _, grows.1, grows.2⟩ }
  have counted : Keeps [] s { s with lamp := if 0 < s.power.handed then burnSecond s.lamp else s.lamp } := by
    split
    · exact burns
    · exact .refl [] s
  exact (counted.of_clock _).next

/-! ### The lead (R146 to R160) -/

theorem execDischargeEnd_keeps (s : State) : KeepsNext s (execDischargeEnd s) := by
  refine Keeps.next ?_
  split
  · rename_i off
    exact enterDetect_keeps (by simp [off]) (.refl [] s)
  · exact .refl [] s

/-- A detection period begins (R146). -/
theorem Keeps.of_detect (h : Keeps o s t) (n m : Nat) : Keeps o s { t with line := { t.line with
    detectCount := n, detectPeriod := startTimer m s } } :=
  h.of_line { waits := fun _ g => ⟨g.off, fun _ => rfl, g.powering, g.sending, g.awaiting, g.retry, g.up⟩ }

theorem execDetectPeriod_keeps (v : Code10) (s : State) : KeepsNext s (execDetectPeriod v s) := by
  refine Keeps.next ?_
  split
  · rename_i detect
    split
    · split
      · exact enterPowering_keeps (by simp [detect]) (.refl [] s)
      · exact (Keeps.refl [] s).of_detect _ _
    · exact (Keeps.refl [] s).of_detect _ _
  · exact .refl [] s

theorem execLineDetected_keeps (s : State) : KeepsNext s (execLineDetected s) := by
  refine Keeps.next ?_
  split
  · rename_i detect
    exact enterPowering_keeps (by simp [detect]) (.refl [] s)
  · exact .refl [] s

theorem execSettlingEnd_keeps (s : State) : KeepsNext s (execSettlingEnd s) := by
  refine Keeps.next ?_
  split
  · exact startLine_keeps ‹_› (.refl [] s)
  · exact .refl [] s

theorem execLineOvercurrent_keeps (s : State) : KeepsNext s (execLineOvercurrent s) := by
  refine Keeps.next ?_
  split
  · exact overcurrent_keeps (not_listening_of_powered ‹_›) (.refl [] s)
  · exact .refl [] s

theorem execRetryTimerEnd_keeps (s : State) : KeepsNext s (execRetryTimerEnd s) := by
  refine Keeps.next ?_
  split
  · rename_i retry
    exact enterPowering_keeps (by simp [retry]) (.refl [] s)
  · exact .refl [] s

theorem execQuietTimerEnd_keeps (s : State) : KeepsNext s (execQuietTimerEnd s) := by
  refine Keeps.next ?_
  split
  · exact (Keeps.refl [] s).of_line {}
  · exact .refl [] s

theorem execNoAnswerTimeout_keeps (s : State) : KeepsNext s (execNoAnswerTimeout s) := by
  refine Keeps.next ?_
  split
  · rename_i up
    exact noAnswer_keeps (not_listening_of_powered up.1) (.refl [] s)
  · exact .refl [] s

theorem frameSent_keeps (sending : t.line.state = .sending) (h : Keeps o s t) : Keeps o s (frameSent t) := by
  have lead : t.line.state ≠ .listening := by simp [sending]
  have up : LineWaits t.line → t.line.noAnswer.isSome = true ∧ t.line.pollPeriod.isSome = true := fun g =>
    g.up (by simp [sending, LineState.powered]) (by simp [sending])
  unfold frameSent
  split
  · exact h.of_line
      { role := fun _ g => ⟨g.role, by simpa [lead] using g.state⟩
        waits := fun _ g => ⟨nofun, nofun, nofun, nofun, fun _ => rfl, nofun, fun _ _ => up g⟩
        fault := fun _ => nofun }
  · exact enterIdle_keeps lead (fun g => g.up (by simp [sending, LineState.powered]) (by simp [sending])) (h.of_line {})
  · exact enterIdle_keeps lead (fun g => g.up (by simp [sending, LineState.powered]) (by simp [sending])) (h.of_line
      { buffers := fun g => ⟨by have := g.1; simp only [List.length_drop]; omega, g.2⟩ })
  · exact enterIdle_keeps lead up h

theorem execLeadFrameSent_keeps (s : State) : KeepsNext s (execLeadFrameSent s) := by
  refine Keeps.next ?_
  split
  · exact frameSent_keeps ‹_› (.refl [] s)
  · exact .refl [] s

theorem execReplyStart_keeps (s : State) : KeepsNext s (execReplyStart s) := by
  refine Keeps.next ?_
  split
  · rename_i awaiting
    exact (Keeps.refl [] s).of_line
      { role := fun _ g => ⟨g.role, by simpa [awaiting] using g.state⟩
        waits := fun _ g => ⟨nofun, nofun, nofun, nofun, nofun, nofun, fun _ _ =>
          g.up (by simp [awaiting, LineState.powered]) (by simp [awaiting])⟩
        fault := fun _ => nofun }
  · exact .refl [] s

theorem execReplyReceived_keeps (rx : LineRx) (s : State) : KeepsNext s (execReplyReceived rx s) := by
  refine Keeps.next ?_
  split
  · rename_i receiving
    split
    · exact takeReply_keeps _ _ receiving.1 (.refl [] s)
    · exact enterIdle_keeps (by simp [receiving.1])
        (fun g => g.up (by simp [receiving.1, LineState.powered]) (by simp [receiving.1])) (.refl [] s)
  · exact .refl [] s

theorem execReplyWindowTimeout_keeps (low : Bool) (s : State) : KeepsNext s (execReplyWindowTimeout low s) := by
  have idle : ∀ u : State, u.line.state = .awaiting → Keeps [] s u →
      Keeps [] s (enterIdle { u with line := { u.line with holdOff := low } }) := fun u e hu =>
    enterIdle_keeps (by simp [e]) (fun g => g.up (by simp [e, LineState.powered]) (by simp [e])) (hu.of_line {})
  refine Keeps.next ?_
  split
  · rename_i awaiting
    dsimp only
    split
    · exact idle _ (by rw [missedReply_line_state, awaiting]) (missedReply_keeps _ (.refl [] s))
    · exact idle _ awaiting (.refl [] s)
  · exact .refl [] s

theorem execReceiveLineQuiet_keeps (s : State) : KeepsNext s (execReceiveLineQuiet s) := by
  refine Keeps.next ?_
  split
  · rename_i receiving
    exact enterIdle_keeps (by simp [receiving.1])
      (fun g => g.up (by simp [receiving.1, LineState.powered]) (by simp [receiving.1])) (.refl [] s)
  · split
    · exact chooseFrame_keeps ((Keeps.refl [] s).of_line {})
    · exact .refl [] s

theorem execSyncTimer_keeps (s : State) : KeepsNext s (execSyncTimer s) := by
  refine Keeps.next ?_
  split
  · exact chooseFrame_keeps ((Keeps.refl [] s).of_line {})
  · exact .refl [] s

theorem execPollPeriod_keeps (s : State) : KeepsNext s (execPollPeriod s) := by
  refine Keeps.next ?_
  split
  · exact chooseFrame_keeps (fillPolls_keeps ((Keeps.refl [] s).of_line
      { waits := fun _ g => ⟨g.off, g.detect, g.powering, g.sending, g.awaiting, g.retry, fun p n => ⟨(g.up p n).1, rfl⟩⟩ }))
  · exact .refl [] s

/-! ### The cooling and power unit (R86 to R100) -/

theorem execPowerKey_keeps (s : State) : KeepsNext s (execPowerKey s) := (powerKeyPressed_keeps (.refl [] s)).next

theorem execRunupSupplyGood_keeps (s : State) : KeepsNext s (execRunupSupplyGood s) := by
  refine Keeps.next ?_
  split
  · exact supplyGood_keeps ((Keeps.refl [] s).of_power {})
  · exact .refl [] s

theorem execRunupTimeout_keeps (s : State) : KeepsNext s (execRunupTimeout s) := by
  refine Keeps.next ?_
  split
  · exact setFlag_keeps _ (postGate_keeps _ _ _ _ _ (leaveRunup_keeps _ ‹_› (.refl [] s)))
  · exact .refl [] s

theorem execShutdownComplete_keeps (s : State) : KeepsNext s (execShutdownComplete s) :=
  (testShutdown_keeps (.refl [] s)).next

theorem celsius_le (c : Code10) : celsius c.toNat ≤ 250 := by
  have := c.isLt
  unfold celsius
  omega

theorem decideBand_keeps {gate house : Nat} (hg : gate ≤ 250) (hh : house ≤ 250) (h : Keeps o s t) :
    Keeps o s (decideBand gate house t) := by
  have read := (h.opens (.flag .thermalHot)).of_power
    (p := { t.power with gateTemp := gate, houseTemp := house, band := bandOf t.path.settings t.power.band gate house })
    { temperatures := fun _ => ⟨hg, hh⟩, hot := fun n => absurd List.mem_cons_self n }
  unfold decideBand
  dsimp only
  split
  · exact holdShow_keeps ((setFlag_keeps .thermalHot (postGate_keeps _ _ _ _ _ read)).closes
      fun _ _ => .inr (flagOn_setFlag_self _ _))
  · rename_i same
    refine h.of_power { temperatures := fun _ => ⟨hg, hh⟩, hot := fun _ e => .inl ?_ }
    by_contra cool
    exact same ⟨e, cool⟩

theorem smoothPower_keeps (h : Keeps o s t) : Keeps o s (smoothPower t) :=
  h.of_power { smooth := fun g => ⟨by
    have := (stepEighth_between t.power.smoothed t.power.handed).2
    have := g.smoothed
    have := g.handed
    simp only
    omega, g.handed⟩ }

theorem testCooldown_keeps (h : Keeps o s t) : Keeps o s (testCooldown t) := by
  unfold testCooldown
  split
  · exact h
  · dsimp only
    split
    · exact testShutdown_keeps (h.of_power
        { drive := fun _ g => ⟨g.lit, g.dark, fun _ => rfl, g.mark⟩, cooldown := fun _ => Nat.zero_le _ })
    · exact h.of_power { cooldown := fun _ => Nat.min_le_left _ _ }

theorem fanDutyOf_le (b : Bytes) {p : Power} (h : p.smoothed ≤ 4095) : fanDutyOf b p ≤ 255 := by
  have low := fanMin_le b
  have high := fanMax_le b
  have order : fanMin b ≤ fanMax b := Nat.le_max_left _ _
  unfold fanDutyOf
  split
  · exact Nat.zero_le _
  · split
    · exact high
    · have part : (fanMax b - fanMin b) * p.smoothed / 4095 ≤ fanMax b - fanMin b :=
        Nat.div_le_of_le_mul (by rw [Nat.mul_comm 4095]; exact Nat.mul_le_mul_left _ h)
      omega

theorem applyFan_keeps (h : Keeps o s t) : Keeps o s (applyFan t) := setFan_keeps (fun g => fanDutyOf_le _ g.smoothed) h

theorem execCoolingPeriod_keeps (gate house : Code10) (s : State) : KeepsNext s (execCoolingPeriod gate house s) :=
  (applyFan_keeps (testCooldown_keeps (smoothPower_keeps (decideBand_keeps (celsius_le _) (celsius_le _)
    ((Keeps.refl [] s).of_clock _))))).next

theorem enterWatching_keeps (h : Keeps o s t) : Keeps o s (enterWatching t) :=
  h.of_power { waits := fun g => ⟨g.runup, nofun, fun _ => rfl⟩, failed := fun _ => nofun }

theorem execFanSpinUpEnd_keeps (s : State) : KeepsNext s (execFanSpinUpEnd s) := by
  refine Keeps.next ?_
  split
  · exact enterWatching_keeps (.refl [] s)
  · exact .refl [] s

theorem execFanTachEdge_keeps (s : State) : KeepsNext s (execFanTachEdge s) := by
  refine Keeps.next ?_
  split
  · exact (Keeps.refl [] s).of_power { waits := fun g => ⟨g.runup, g.spinUp, fun _ => rfl⟩ }
  · split
    · exact .refl [] s
    · exact (Keeps.refl [] s).of_power { waits := fun g => ⟨g.runup, g.spinUp, fun _ => rfl⟩ }
  · exact .refl [] s
  · exact .refl [] s

theorem execFanGapTimeout_keeps (s : State) : KeepsNext s (execFanGapTimeout s) := by
  refine Keeps.next ?_
  split
  · have failed := ((Keeps.refl [] s).opens (.flag .fanFailed)).of_power
      (p := { s.power with fanWatch := .failed, gapTimer := none, recovery := none })
      { waits := fun g => ⟨g.runup, nofun, nofun⟩, failed := fun n => absurd List.mem_cons_self n }
    exact (setFlag_keeps .fanFailed (postGate_keeps _ _ _ _ _ failed)).closes fun _ _ => .inr (flagOn_setFlag_self _ _)
  · exact .refl [] s

theorem execFanRecoveryGap_keeps (s : State) : KeepsNext s (execFanRecoveryGap s) := by
  refine Keeps.next ?_
  split
  · rename_i failed
    exact (Keeps.refl [] s).of_power { waits := fun g => ⟨g.runup, g.spinUp, fun e => by simp [failed.1] at e⟩ }
  · exact .refl [] s

theorem execFanRecovered_keeps (s : State) : KeepsNext s (execFanRecovered s) := by
  refine Keeps.next ?_
  split
  · exact enterWatching_keeps (.refl [] s)
  · exact .refl [] s

end Sys2Proof.Machine
end

section
/-! PROOFS. `Keeps` through the memory path: data bytes, the start of a transaction, and the steps of its end (R181 to R200). -/

namespace Sys2Proof.Machine

set_option Elab.async false

variable {o : List Open} {s t : State}

/-! ### Data bytes (R190, R191, R193) -/

theorem endPassed_keeps (h : Keeps (.path :: o) s t) : Keeps (.path :: o) s (endPassed t) := h.of_path {}

theorem sendUp_keeps (b : Byte) (h : Keeps (.path :: o) s t) : Keeps (.path :: o) s (sendUp b t) := h.of_path {}

theorem endLeg_keeps (h : Keeps (.path :: o) s t) : Keeps (.path :: o) s (endLeg t) := h.of_path {}

theorem forward_keeps (b : Byte) (h : Keeps (.path :: o) s t) : Keeps (.path :: o) s (forward b t) := h.of_path {}

/-- A transaction takes the place of the one in progress, and what it has gathered is as canonical. -/
theorem setTxn_keeps {x y : Txn} (txn : t.path.txn = some x) (wf : txnWf x = true → txnWf y = true) (h : Keeps (.path :: o) s t) :
    Keeps (.path :: o) s (setTxn y t) :=
  h.of_path { stores := fun g => { g with txn := fun z e => by cases e; exact wf (g.txn x txn) } }

/-- What gathers nothing more stays canonical. -/
theorem txnWf_of_same {x y : Txn} (seen : y.settingsSeen = x.settingsSeen) (live : y.live = x.live)
    (absorbed : y.absorbed = x.absorbed) (read : y.logRead = x.logRead) : txnWf x = true → txnWf y = true := by
  simp [txnWf, seen, live, absorbed, read]

theorem txnWf_settingsSeen {x : Txn} (k : Nat) (h : txnWf x = true) :
    txnWf { x with settingsSeen := assocSet x.settingsSeen k () } = true := by
  simp only [txnWf, Bool.and_eq_true] at h ⊢
  obtain ⟨⟨⟨seen, live⟩, absorbed⟩, read⟩ := h
  exact ⟨⟨⟨assocSet_sorted _ _ _ seen, live⟩, absorbed⟩, read⟩

theorem txnWf_live {x : Txn} (k : Nat) (b : Byte) (h : txnWf x = true) :
    txnWf { x with live := assocSet x.live k b } = true := by
  simp only [txnWf, Bool.and_eq_true] at h ⊢
  obtain ⟨⟨⟨seen, live⟩, absorbed⟩, read⟩ := h
  exact ⟨⟨⟨seen, assocSet_sorted _ _ _ live⟩, absorbed⟩, read⟩

theorem txnWf_absorbed {x : Txn} (k : Nat) (b : Byte) (h : txnWf x = true) :
    txnWf { x with absorbed := assocSet x.absorbed k b } = true := by
  simp only [txnWf, Bool.and_eq_true] at h ⊢
  obtain ⟨⟨⟨seen, live⟩, absorbed⟩, read⟩ := h
  exact ⟨⟨⟨seen, live⟩, assocSet_sorted _ _ _ absorbed⟩, read⟩

theorem txnWf_logRead {x : Txn} (k : Nat) (h : txnWf x = true) :
    txnWf { x with logRead := assocSet x.logRead k () } = true := by
  simp only [txnWf, Bool.and_eq_true] at h ⊢
  obtain ⟨⟨⟨seen, live⟩, absorbed⟩, read⟩ := h
  exact ⟨⟨⟨seen, live⟩, absorbed⟩, assocSet_sorted _ _ _ read⟩

theorem capture_keeps (c : AddrClass) (b : Byte) {x y : Txn} (txn : t.path.txn = some x)
    (wf : txnWf x = true → txnWf y = true) (h : Keeps (.path :: o) s t) : Keeps (.path :: o) s (capture c b y t) := by
  unfold capture
  split
  · rename_i k
    have captured : Keeps (.path :: o) s { t with path := { t.path with header := captureByte t.path.header k b } } :=
      h.of_path { stores := fun g => { g with header := captureByte_wf _ _ _ g.header } }
    exact setTxn_keeps (by exact txn) (fun e => txnWf_of_same rfl rfl rfl rfl (wf e)) captured
  · rename_i k
    have captured : Keeps (.path :: o) s { t with path := { t.path with program := captureByte t.path.program k b } } :=
      h.of_path { stores := fun g => { g with program := captureByte_wf _ _ _ g.program } }
    exact setTxn_keeps (by exact txn) wf captured
  · rename_i k
    have captured : Keeps (.path :: o) s { t with path := { t.path with mirror := captureByte t.path.mirror k b } } :=
      h.of_path { stores := fun g => { g with mirror := captureByte_wf _ _ _ g.mirror } }
    exact setTxn_keeps (by exact txn) (fun e => txnWf_settingsSeen _ (wf e)) captured
  · exact setTxn_keeps txn wf h

/-- The address alone moves on (R181). -/
theorem txnWf_nextAddr {x : Txn} (h : txnWf x = true) : txnWf (nextAddr x) = true := txnWf_of_same rfl rfl rfl rfl h

theorem readByte_keeps (p : Snapshot) {x : Txn} (m : Byte) (txn : t.path.txn = some x) (h : Keeps (.path :: o) s t) :
    Keeps (.path :: o) s (readByte p x m t) := by
  have next : Keeps (.path :: o) s (setTxn (nextAddr x) t) := setTxn_keeps txn txnWf_nextAddr h
  unfold readByte
  dsimp only
  split
  · exact sendUp_keeps _ (setTxn_keeps txn (fun e => txnWf_nextAddr (txnWf_logRead _ e)) h)
  · exact sendUp_keeps _ next
  · exact sendUp_keeps _ next
  · exact sendUp_keeps _ next
  · split
    · exact sendUp_keeps _ next
    · exact sendUp_keeps _ (setTxn_keeps txn (fun e => txnWf_nextAddr (txnWf_live _ _ e)) h)
  · exact sendUp_keeps _ (capture_keeps _ _ txn txnWf_nextAddr h)
  · exact sendUp_keeps _ (capture_keeps _ _ txn txnWf_nextAddr h)
  · exact sendUp_keeps _ (capture_keeps _ _ txn txnWf_nextAddr h)
  · exact sendUp_keeps _ (capture_keeps _ _ txn txnWf_nextAddr h)

theorem absorb_keeps (c : AddrClass) (b : Byte) {x : Txn} (txn : t.path.txn = some x) (h : Keeps (.path :: o) s t) :
    Keeps (.path :: o) s (absorb c b x t) := by
  unfold absorb
  split
  · exact setTxn_keeps txn (fun e => txnWf_nextAddr (txnWf_absorbed _ _ e)) h
  · exact setTxn_keeps txn (fun e => txnWf_nextAddr (txnWf_absorbed _ _ e)) h
  · exact setTxn_keeps txn txnWf_nextAddr h

theorem writeByte_keeps {x : Txn} (b : Byte) (txn : t.path.txn = some x) (h : Keeps (.path :: o) s t) :
    Keeps (.path :: o) s (writeByte x b t) := by
  unfold writeByte
  dsimp only
  split
  · exact absorb_keeps _ _ txn h
  · split
    · have declined : Keeps (.path :: o) s { t with path := { t.path with declined := satInc 255 t.path.declined } } :=
        h.of_path { counts := fun g => ⟨satInc_le _ _, g.2⟩ }
      exact absorb_keeps _ _ (by exact txn) (endLeg_keeps declined)
    · split
      · exact absorb_keeps _ _ (by exact txn) (endLeg_keeps h)
      · exact absorb_keeps _ _ (by exact txn) (endLeg_keeps h)
      · exact forward_keeps _ (setTxn_keeps txn (fun e => txnWf_nextAddr (txnWf_live _ _ e)) h)
      · exact forward_keeps _ (capture_keeps _ _ txn txnWf_nextAddr h)

theorem writeUnlatched_keeps {x : Txn} (b : Byte) (txn : t.path.txn = some x) (h : Keeps (.path :: o) s t) :
    Keeps (.path :: o) s (writeUnlatched x b t) := by
  unfold writeUnlatched
  dsimp only
  split
  · exact setTxn_keeps txn txnWf_nextAddr h
  · split
    · exact setTxn_keeps (by exact txn) txnWf_nextAddr (endLeg_keeps h)
    · exact forward_keeps _ (setTxn_keeps txn txnWf_nextAddr h)

/-! ### The start of a transaction (R181, R192) -/

/-- A transaction that opens has gathered nothing. -/
theorem openTxn_keeps (k : TxnKind) (a : Word) (u : State) (bs : List Byte) (h : Keeps (.path :: o) s t) :
    Keeps (.path :: o) s (openTxn (some (newTxn k a u)) bs t) :=
  h.of_path { stores := fun g => { g with txn := fun z e => by cases e; rfl } }

theorem openNothing_keeps (bs : List Byte) (h : Keeps (.path :: o) s t) : Keeps (.path :: o) s (openTxn none bs t) :=
  h.of_path { stores := fun g => { g with txn := nofun } }

theorem passCommand_keeps (k : TxnKind) (b : Byte) (h : Keeps (.path :: o) s t) : Keeps (.path :: o) s (passCommand k b t) :=
  openTxn_keeps _ _ _ _ h

theorem startRead_keeps (a : AddrPhase) (h : Keeps (.path :: o) s t) : Keeps (.path :: o) s (startRead a t) := by
  unfold startRead
  split
  · exact openNothing_keeps _ h
  · exact openNothing_keeps _ h
  · exact openTxn_keeps _ _ _ _ h

theorem startWrite_keeps (a : AddrPhase) (h : Keeps (.path :: o) s t) : Keeps (.path :: o) s (startWrite a t) := by
  unfold startWrite
  split
  · exact endLeg_keeps (openNothing_keeps _ h)
  · exact endLeg_keeps (openNothing_keeps _ h)
  · exact openTxn_keeps _ _ _ _ h

theorem startByte_keeps (b : Byte) (h : Keeps (.path :: o) s t) : Keeps (.path :: o) s (startByte b t) := by
  unfold startByte
  split
  · exact startRead_keeps _ h
  · exact startWrite_keeps _ h
  · exact passCommand_keeps _ _ h
  · exact passCommand_keeps _ _ h
  · exact passCommand_keeps _ _ h
  · exact passCommand_keeps _ _ h

theorem startTxn_keeps {f : State → State} (start : ∀ {u : State}, Keeps (.path :: o) s u → Keeps (.path :: o) s (f u)) (h : Keeps (.path :: o) s t) :
    Keeps (.path :: o) s (startTxn f t) := by
  unfold startTxn
  split
  · exact start (endPassed_keeps h)
  · exact h

/-! ### The commands before the end of a transaction -/

/-- What a command of the memory link keeps: everything but the memory path itself (R181). -/
def LinkKeepsNext (s : State) (r : Host.Outcome State Fault Refusal) : Prop := ∀ t, r = .next t → Keeps [.path] s t

theorem Keeps.linkNext {s t : State} (h : Keeps [.path] s t) : LinkKeepsNext s (.next t) := fun _ e => by
  cases e; exact h


theorem execRead_keeps (a : AddrPhase) (s : State) : LinkKeepsNext s (execRead a s) :=
  (startTxn_keeps (startRead_keeps a) (.refl [.path] s)).linkNext

theorem execReadDataByte_keeps (m : Byte) (s : State) : LinkKeepsNext s (execReadDataByte m s) := by
  refine Keeps.linkNext ?_
  split
  · exact .refl [.path] s
  · split
    · exact sendUp_keeps _ (.refl [.path] s)
    · exact sendUp_keeps _ (.refl [.path] s)
    · exact readByte_keeps _ _ ‹_› (.refl [.path] s)
    · exact .refl [.path] s

theorem execWrite_keeps (a : AddrPhase) (s : State) : LinkKeepsNext s (execWrite a s) :=
  (startTxn_keeps (startWrite_keeps a) (.refl [.path] s)).linkNext

theorem execWriteDataByte_keeps (b : Byte) (s : State) : LinkKeepsNext s (execWriteDataByte b s) := by
  have passed : Keeps [.path] s (if s.path.legOpen then forward b s else s) := by
    split
    · exact forward_keeps _ (.refl [.path] s)
    · exact .refl [.path] s
  refine Keeps.linkNext ?_
  split
  · exact .refl [.path] s
  · split
    · exact passed
    · exact passed
    · exact .refl [.path] s
    · exact writeByte_keeps _ ‹_› (.refl [.path] s)
    · exact writeUnlatched_keeps _ ‹_› (.refl [.path] s)

theorem execSetLatch_keeps (s : State) : LinkKeepsNext s (execSetLatch s) :=
  (startTxn_keeps (passCommand_keeps _ _) (.refl [.path] s)).linkNext

theorem execClearLatch_keeps (s : State) : LinkKeepsNext s (execClearLatch s) :=
  (startTxn_keeps (passCommand_keeps _ _) (.refl [.path] s)).linkNext

theorem execReadStatus_keeps (s : State) : LinkKeepsNext s (execReadStatus s) :=
  (startTxn_keeps (passCommand_keeps _ _) (.refl [.path] s)).linkNext

theorem execForeignTransaction_keeps (b : Byte) (s : State) : LinkKeepsNext s (execForeignTransaction b s) :=
  (startTxn_keeps (startByte_keeps _) (.refl [.path] s)).linkNext

/-! ### The header and the map (R184 to R186) -/

/-- The ranges of an adopted map passed every check of R185. -/
def MapChecked (m : MapState) : Prop := ∀ i, m = .mapped i → i.count ≤ 512 ∧
  (rangeFits i.program (16 * i.count) = true ∧ rangeFits i.settings 128 = true ∧ rangeFits i.live 24 = true) ∧
  disjoint i.program (16 * i.count) i.settings 128 = true ∧ disjoint i.program (16 * i.count) i.live 24 = true ∧
  disjoint i.settings 128 i.live 24 = true

theorem headerMap_checked {b : Bytes} (h : headerFailure b = none) : MapChecked (.mapped (headerMap b)) := by
  intro i e
  cases e
  unfold headerFailure at h
  dsimp only at h
  split at h
  · cases h
  · split at h
    · cases h
    · split at h
      · cases h
      · split at h
        · cases h
        · split at h
          · cases h
          · simp_all [and_assoc]

theorem changeMap_keeps {m : MapState} (checked : MapChecked m) (fault : m = .mapFault → .flag .mapFault ∈ o)
    (opened : .path ∈ o) (h : Keeps o s t) : Keeps o s (changeMap m t) := by
  have limited : Keeps o s { t with engine := { t.engine with
      pointer := min t.engine.pointer (entriesInForce { t with path := { t.path with map := m } }) } } :=
    h.of_engine { pointer := fun g => (Nat.min_le_left _ _).trans g.pointer }
  exact limited.of_path
    (x := { t.path with map := m, program := clearMarks t.path.program, mirror := clearMarks t.path.mirror })
    { map := fun g => ⟨fun i e => (checked i e).1, fun i e => (checked i e).2.1, fun i e => (checked i e).2.2,
        Nat.min_le_right _ _⟩
      fault := fun n e => absurd (fault e) n
      stores := fun g => { g with program := clearMarks_wf _ g.program, mirror := clearMarks_wf _ g.mirror } } opened

theorem adoptMap_keeps {m : MapInfo} (checked : MapChecked (.mapped m)) (h : Keeps (.path :: o) s t) : Keeps (.path :: o) s (adoptMap m t) :=
  postGate_keeps _ _ _ _ _ (changeMap_keeps checked nofun List.mem_cons_self h)

theorem enterMapFault_keeps (code : Nat) (h : Keeps (.path :: o) s t) : Keeps (.path :: o) s (enterMapFault code t) :=
  (setFlag_keeps .mapFault (postGate_keeps _ _ _ _ _ (changeMap_keeps (m := .mapFault) nofun
    (fun _ => List.mem_cons_self) (by simp) (h.opens _)))).closes fun _ _ => .inr (flagOn_setFlag_self _ _)

theorem validateHeader_keeps (x : Txn) (h : Keeps (.path :: o) s t) : Keeps (.path :: o) s (validateHeader x t) := by
  unfold validateHeader decideMap
  split
  · split
    · rename_i valid
      dsimp only
      split
      · exact h
      · exact adoptMap_keeps (headerMap_checked valid) h
    · split
      · exact h
      · exact enterMapFault_keeps _ h
  · exact h

/-! ### The settings in force (R188) -/

theorem newSettings_wf {x : Txn} (mirror : captureWf s.path.mirror = true) (h : Memory.wf s.path.settings = true) :
    Memory.wf (newSettings x s) = true := by
  unfold newSettings
  split
  · exact replaceBytes_wf _ _ _ h
  · split
    · simp only [captureWf, Bool.and_eq_true] at mirror
      exact mirror.1
    · exact h

/-- The owners act on what changed, and the line unit is in the role then in force (R29, R144, R161). -/
theorem updateSettings_keeps (x : Txn) (h : Keeps (.path :: o) s t) : Keeps (.path :: o) s (updateSettings x t) := by
  have brought := (h.opens .role).of_path (x := { t.path with settings := newSettings x t })
    { stores := fun g => { g with settings := newSettings_wf g.mirror g.settings }
      role := fun n => absurd List.mem_cons_self n }
  unfold updateSettings settingsActions
  extract_lets p b s1 s2
  have sized : Keeps (.role :: .path :: o) s s1 := by
    simp only [s1]
    split
    · exact sizeChange_keeps brought
    · exact brought
  have same : s1.line = t.line ∧ s1.path.settings = b := by
    simp only [s1]
    split <;> simp [b]
  have agreed : Keeps (.path :: o) s s2 := by
    simp only [s2]
    split
    · exact roleChange_keeps (by rw [same.2]) sized
    · rename_i agrees
      refine sized.closes fun n g => ⟨?_, ?_⟩
      · rw [same.2]
        exact (not_not.mp agrees).symm
      · rw [same.1]
        exact (h.role n g).state
  split
  · exact followerCountChange_keeps _ agreed
  · exact agreed

/-! ### The live records (R194 to R196) -/

theorem setPointer_keeps (p : Nat) (h : Keeps (.path :: o) s t) : Keeps (.path :: o) s (setPointer p t) := h.of_pointer (Nat.min_le_right _ _)

/-- A record that is loaded or applied sets the usage counts, whatever they were (R81). -/
theorem setUsage_keeps (m : Assoc Byte) (later : .usage ∈ o) (h : Keeps (.path :: o) s t) : Keeps (.path :: o) s (setUsage m t) :=
  h.of_lamp
    { counts := fun g =>
        ⟨⟨g.1.1, g.1.2.1, (live32 m 8).isLt, (wordOf (liveAt m 16) (liveAt m 17)).isLt⟩,
          ⟨g.2.1, g.2.2.1, (live32 m 12).isLt, (wordOf (liveAt m 18) (liveAt m 19)).isLt⟩⟩
      usage := fun n => absurd (List.mem_cons_of_mem _ later) n }

theorem toInt_counter (c : Clock32) : -2147483648 ≤ c.toInt ∧ c.toInt ≤ 2147483647 := by
  have low := BitVec.le_toInt c
  have high := BitVec.toInt_lt (x := c)
  omega

theorem writtenRunState_keeps (v : Nat) (h : Keeps (.path :: o) s t) : Keeps (.path :: o) s (writtenRunState v t) := by
  unfold writtenRunState
  split
  · exact h
  · split
    · exact requestStop_keeps h
    · split
      · exact requestStart_keeps h
      · exact requestResume_keeps h
    · exact requestHold_keeps h
    · exact requestLearn_keeps h
    · exact h

theorem loadRecord_keeps (m : Assoc Byte) (r : LiveRecord) (later : .usage ∈ o) (h : Keeps (.path :: o) s t) :
    Keeps (.path :: o) s (loadRecord m r t) := by
  cases r with
  | showPosition => exact setPointer_keeps _ h
  | lampUsage => exact setUsage_keeps _ later h
  | tape => exact setCounter_keeps (toInt_counter _) h

theorem applyRecord_keeps (m : Assoc Byte) (r : LiveRecord) (later : .usage ∈ o) (h : Keeps (.path :: o) s t) :
    Keeps (.path :: o) s (applyRecord m r t) := by
  cases r with
  | showPosition =>
    refine writtenRunState_keeps _ ?_
    split
    · exact setPointer_keeps _ h
    · exact h
  | lampUsage => exact setUsage_keeps _ later h
  | tape => exact setCounter_keeps (toInt_counter _) h

theorem setLoaded_keeps (r : LiveRecord) (h : Keeps (.path :: o) s t) : Keeps (.path :: o) s (setLoaded r t) := by
  cases r <;> exact h.of_path {}

theorem finishLoad_keeps (m : Assoc Byte) (r : LiveRecord) (later : .usage ∈ o) (h : Keeps (.path :: o) s t) :
    Keeps (.path :: o) s (finishLoad m r t) := by
  unfold finishLoad
  split
  · exact setLoaded_keeps _ (loadRecord_keeps _ _ later h)
  · exact h

theorem finishApply_keeps (m : Assoc Byte) (r : LiveRecord) (later : .usage ∈ o) (h : Keeps (.path :: o) s t) :
    Keeps (.path :: o) s (finishApply m r t) := by
  unfold finishApply
  split
  · exact setLoaded_keeps _ (applyRecord_keeps _ _ later h)
  · split
    · exact h.of_path { counts := fun g => ⟨g.1, satInc_le _ _⟩ }
    · exact h

/-! ### Control requests (R198) -/

theorem controlCue_keeps (k : CueKind) (h : Keeps (.path :: o) s t) : Keeps (.path :: o) s (controlCue k t).1 := postCue_keeps _ _ _ h

theorem controlDeck_keeps (a : Nat) (target : Int) (h : Keeps (.path :: o) s t) : Keeps (.path :: o) s (controlDeck a target t).1 := by
  unfold controlDeck
  split
  · exact h
  · split
    · exact h
    · split
      · exact deckRequest_keeps (by decide) h
      · exact deckRequest_keeps (by decide) h
      · split
        · exact deckRequest_keeps (by decide) h
        · exact h
      · split
        · exact deckRequest_keeps (by decide) h
        · exact h
      · split
        · exact deckLocate_keeps _ h
        · exact h

theorem controlWriteCue_keeps (a : Nat) (b c : Word) (h : Keeps (.path :: o) s t) : Keeps (.path :: o) s (controlWriteCue a b c t).1 := by
  unfold controlWriteCue
  split
  · exact h
  · split
    · exact h
    · exact placeFrame_keeps _ _ _ _ h

theorem controlRequest_keeps (code a : Nat) (b c : Word) (h : Keeps (.path :: o) s t) : Keeps (.path :: o) s (controlRequest code a b c t).1 := by
  unfold controlRequest
  split
  · exact requestStart_keeps h
  · exact requestHold_keeps h
  · exact requestResume_keeps h
  · exact requestStop_keeps h
  · exact requestLearn_keeps h
  · exact controlCue_keeps _ h
  · exact controlCue_keeps _ h
  · split
    · exact h
    · exact controlCue_keeps _ h
  · exact lampOn_keeps h
  · exact lampOff_keeps h
  · split
    · exact lampReplaced_keeps _ h
    · exact h
  · exact controlDeck_keeps _ _ h
  · exact controlWriteCue_keeps _ _ _ h
  · exact clearJam_keeps h
  · exact powerOnRequest_keeps _ h
  · exact powerOffRequest_keeps _ h
  · exact lineReset_keeps h
  · exact h

theorem finishRequest_keeps (x : Txn) (h : Keeps (.path :: o) s t) : Keeps (.path :: o) s (finishRequest x t) := by
  unfold finishRequest
  split
  · exact (controlRequest_keeps _ _ _ _ h).of_path {}
  · exact h

/-! ### Consumption of the log view (R199, R205) -/

/-- Consumption takes entries from the front alone. -/
theorem consume_eq_drop (run : List Word) (es : List LogEntry) : ∃ d, consume run es = es.drop d := by
  induction es with
  | nil => exact ⟨0, rfl⟩
  | cons e es ih =>
    unfold consume
    split
    · obtain ⟨d, hd⟩ := ih
      exact ⟨d + 1, hd⟩
    · exact ⟨0, rfl⟩

theorem numbers_drop {ring : List LogEntry} {next : Word} (d : Nat)
    (h : ∀ i x, ring[i]? = some x → x.sequence = next - BitVec.ofNat 16 (ring.length - i)) :
    ∀ i x, (ring.drop d)[i]? = some x → x.sequence = next - BitVec.ofNat 16 ((ring.drop d).length - i) := by
  intro i x e
  rw [List.getElem?_drop] at e
  rw [h _ x e, List.length_drop, Nat.sub_sub]

theorem finishConsume_keeps (p : Snapshot) (x : Txn) (h : Keeps (.path :: o) s t) : Keeps (.path :: o) s (finishConsume p x t) := by
  refine h.of_log { numbers := fun g => ?_ }
  obtain ⟨d, e⟩ := consume_eq_drop ((p.log.take (fullyRead x.logRead 0 p.log.length)).map LogEntry.sequence) t.log.ring
  rw [e]
  have size := g.size
  exact ⟨by simp only [List.length_drop]; omega, (numbers_iff _ _).mpr (numbers_drop d ((numbers_iff _ _).mp g.numbers))⟩

theorem finishRead_keeps (p : Snapshot) (x : Txn) (later : .usage ∈ o) (h : Keeps (.path :: o) s t) : Keeps (.path :: o) s (finishRead p x t) :=
  finishConsume_keeps _ _ (finishLoad_keeps _ _ later (finishLoad_keeps _ _ later (finishLoad_keeps _ _ later
    (updateSettings_keeps _ (validateHeader_keeps _ h)))))

theorem closeTxn_keeps (h : Keeps (.path :: o) s t) : Keeps (.path :: o) s (closeTxn t) :=
  h.of_path { stores := fun g => { g with txn := nofun } }

end Sys2Proof.Machine
end

section
/-! PROOFS. Every step keeps every invariant of Sys2Proof/Safety.lean: the commands by `Keeps`, the acknowledgement and the
resets by themselves. -/

namespace Sys2Proof.Machine

set_option Elab.async false

variable {o : List Open} {s t : State}

/-! ### The invariants carried from one state to another -/

/-- Every invariant of `s`, but for the tracking of the flags, is one of `t`. -/
structure Preserves (s t : State) : Prop where
  drive : DriveSafe s → DriveSafe t := by exact fun h => ⟨h.lit, h.dark, h.paid, h.mark⟩
  settled : TransportSettled s → TransportSettled t := by
    exact fun h => ⟨h.phase, h.still, h.seat, h.target, h.ready, h.lost⟩
  owned : CycleOwned s → CycleOwned t := by exact fun h => ⟨h.own, h.phases, h.changing, h.stopping⟩
  map : MapSound s → MapSound t := by exact fun h => ⟨h.count, h.fits, h.apart, h.pointer⟩
  stores : StoresCanonical s → StoresCanonical t := by
    exact fun h => ⟨h.header, h.program, h.mirror, h.settings, h.slots, h.txn⟩
  writer : WriterClear s → WriterClear t := by exact fun h => ⟨h.pointer, h.sorted, h.clear⟩
  buffers : BuffersBounded s → BuffersBounded t := by
    exact fun h => ⟨h.cues, h.broadcasts, h.edges, h.polls, h.digits, h.bits, h.chars⟩
  log : LogSequential s → LogSequential t := by exact fun h => ⟨h.size, h.numbers⟩
  levels : LevelsBounded s → LevelsBounded t := by
    exact fun h => ⟨h.level, h.ramp, h.duty, h.smoothed, h.handed, h.fan, h.gate, h.house, h.audio, h.audioRamp⟩
  counters : CountersBounded s → CountersBounded t := by
    exact fun h => ⟨h.primary, h.spare, h.lost, h.declined, h.partialLive, h.frameErrors, h.overflows, h.lineErrors,
      h.misses, h.counter, h.tapeTime, h.cooldown, h.sequence⟩
  cell : CellBounded s → CellBounded t := by exact fun h => ⟨h.cell, h.run, h.sum⟩
  role : RoleAgrees s → RoleAgrees t := by exact fun h => ⟨h.role, h.state⟩
  transport : TransportSettled s → TransportTimed s → TransportTimed t := by
    exact fun _ h => ⟨h.cam, h.seat, h.pause, h.step, h.focus⟩
  power : PowerTimed s → PowerTimed t := by exact fun h => ⟨h.carriage, h.runup, h.spinUp, h.watching⟩
  deck : DeckTimed s → DeckTimed t := by
    exact fun h => ⟨h.brake, h.request, h.watch, h.second, h.cells, h.decoder, h.pass⟩
  line : LineTimed s → LineTimed t := by
    exact fun h => ⟨h.off, h.detect, h.powering, h.sending, h.awaiting, h.retry, h.up, h.entry, h.hold⟩

theorem Preserves.trans {u : State} (h : Preserves s t) (k : Preserves t u) : Preserves s u where
  drive x := k.drive (h.drive x)
  settled x := k.settled (h.settled x)
  owned x := k.owned (h.owned x)
  map x := k.map (h.map x)
  stores x := k.stores (h.stores x)
  writer x := k.writer (h.writer x)
  buffers x := k.buffers (h.buffers x)
  log x := k.log (h.log x)
  levels x := k.levels (h.levels x)
  counters x := k.counters (h.counters x)
  cell x := k.cell (h.cell x)
  role x := k.role (h.role x)
  transport x y := k.transport (h.settled x) (h.transport x y)
  power x := k.power (h.power x)
  deck x := k.deck (h.deck x)
  line x := k.line (h.line x)

theorem Keeps.preserves (h : Keeps [.path, .usage] s t) : Preserves s t where
  drive := h.drive (by simp)
  settled := h.settled (by simp)
  owned := h.owned (by simp)
  map := h.map
  stores := h.stores
  writer := h.writer
  buffers := h.buffers
  log := h.log
  levels := h.levels
  counters := h.counters
  cell := h.cell
  role := h.role (by simp)
  transport g x := by
    obtain ⟨moves, focus⟩ := (transportTimed_iff s).mp x
    exact (transportTimed_iff t).mpr ⟨h.moves (by simp) g moves, h.focus focus⟩
  power x := by
    obtain ⟨swap, waits⟩ := (powerTimed_iff s).mp x
    exact (powerTimed_iff t).mpr ⟨h.swap (by simp) swap, h.power waits⟩
  deck := h.deck (by simp)
  line x := by
    obtain ⟨waits, entry, hold⟩ := (lineTimed_iff s).mp x
    exact (lineTimed_iff t).mpr ⟨h.line (by simp) waits, h.entry (by simp) entry, h.hold hold⟩

/-- A chain of updates lets no tracked condition hold without its flag. -/
theorem Keeps.flagsTrack (h : Keeps [.path, .usage] s t) (g : FlagsTrack s) : FlagsTrack t := fun f hf held =>
  (h.tracks f hf (by simp) held).elim (fun before => h.flags f (g f hf before)) id

/-! ### The acknowledgement (R208) -/

theorem acknowledge_lost_le (v : Word) (h : s.log.lost ≤ 255) : (acknowledge v s).log.lost ≤ 255 := by
  simp only [acknowledge]
  split
  · exact Nat.zero_le _
  · exact h

theorem acknowledge_preserves (v : Word) (s : State) : Preserves s (acknowledge v s) where
  counters h := { h with lost := acknowledge_lost_le v h.lost }

theorem flagOn_acknowledge (v : Word) (s : State) (f : FaultFlag) :
    flagOn (acknowledge v s) f = if v.getLsbD f.bit then persists s f else flagOn s f := by
  have place := bit_lt_sixteen f
  simp only [flagOn, acknowledge, BitVec.getLsbD_or, BitVec.getLsbD_and, BitVec.getLsbD_not, persistWord_getLsbD_bit,
    mem_allFlags, place]
  cases v.getLsbD f.bit <;> simp

theorem persists_acknowledge (v : Word) (s : State) (f : FaultFlag) : persists (acknowledge v s) f = persists s f := by
  cases f <;> simp [persists, followerAbsent, acknowledge]

/-- No acknowledgement can hide a condition that holds. -/
theorem acknowledge_flagsTrack (v : Word) (g : FlagsTrack s) : FlagsTrack (acknowledge v s) := fun f hf held => by
  rw [persists_acknowledge] at held
  rw [flagOn_acknowledge]
  split
  · exact held
  · exact g f hf held

/-! ### The end of a transaction (R200) -/

theorem finishWrite_preserves (x : Txn) (h : Keeps [.path, .usage] s t) :
    Preserves s (finishWrite x t) ∧ (FlagsTrack s → FlagsTrack (finishWrite x t)) := by
  have mem : Open.usage ∈ [Open.usage] := List.mem_cons_self
  unfold finishWrite
  extract_lets s1 s2
  have applied : Keeps [.path, .usage] s s2 :=
    finishApply_keeps (o := [.usage]) _ _ mem (finishApply_keeps _ _ mem (finishApply_keeps _ _ mem
      (updateSettings_keeps _ (validateHeader_keeps _ h))))
  have acknowledged : Preserves s2 (finishAcknowledge x s2) ∧ (FlagsTrack s2 → FlagsTrack (finishAcknowledge x s2)) := by
    unfold finishAcknowledge
    split
    · exact ⟨acknowledge_preserves _ _, acknowledge_flagsTrack _⟩
    · exact ⟨(Keeps.refl _ _).preserves, id⟩
  have requested := finishRequest_keeps x (.refl [.path, .usage] (finishAcknowledge x s2))
  exact ⟨applied.preserves.trans (acknowledged.1.trans requested.preserves),
    fun g => requested.flagsTrack (acknowledged.2 (applied.flagsTrack g))⟩

/-! ### The commands but the resets -/

/-- The commands of the memory link before the end of a transaction leave the path open, every other command nothing. -/
def openedBy : Instr → List Open
  | .read _ | .readDataByte _ | .write _ | .writeDataByte _ | .setLatch | .clearLatch | .readStatus
  | .foreignTransaction _ => [.path]
  | _ => []

theorem openedBy_subset (c : Instr) : ∀ x ∈ openedBy c, x = .path := by
  unfold openedBy
  split <;> simp

/-- Every command but the end of a transaction and the resets keeps every invariant. -/
theorem exec_keeps (c : Instr) (s : State) (open_ : c ≠ .transactionEnd) (power : ∀ r, c ≠ .powerOnReset r)
    (input : ∀ r, c ≠ .resetInput r) (e : exec c s = .next t) : Keeps (openedBy c) s t := by
  suffices ∀ t, exec c s = .next t → Keeps (openedBy c) s t from this t e
  cases c with
  | powerOnReset r => exact absurd rfl (power r)
  | resetInput r => exact absurd rfl (input r)
  | transactionEnd => exact absurd rfl open_
  | cueTake => exact execCueTake_keeps s
  | cueStart => exact execCueStart_keeps s
  | trayStep => exact execTrayStep_keeps s
  | homingSearchExhausted => exact execHomingSearchExhausted_keeps s
  | stallSensed => exact execStallSensed_keeps s
  | stallPauseEnd => exact execStallPauseEnd_keeps s
  | trayIndexEdge => exact execTrayIndexEdge_keeps s
  | camEncoderCount => exact execCamEncoderCount_keeps s
  | camIndexEdge => exact execCamIndexEdge_keeps s
  | camTimeout => exact execCamTimeout_keeps s
  | seatTimeout => exact execSeatTimeout_keeps s
  | gateChange g => exact execGateChange_keeps g s
  | trayRemoved => exact execTrayRemoved_keeps s
  | trayInserted => exact execTrayInserted_keeps s
  | focusAllowanceSpent => exact execFocusAllowanceSpent_keeps s
  | lampPeriod vs im => exact execLampPeriod_keeps vs im s
  | lampRampDone => exact execLampRampDone_keeps s
  | openFilament => exact execOpenFilament_keeps s
  | lowSupply vs => exact execLowSupply_keeps vs s
  | endSwitchChange primary spare => exact execEndSwitchChange_keeps primary spare s
  | carriageArrival => exact execCarriageArrival_keeps s
  | carriageTimeout => exact execCarriageTimeout_keeps s
  | usageTick => exact execUsageTick_keeps s
  | powerKey => exact execPowerKey_keeps s
  | runupSupplyGood => exact execRunupSupplyGood_keeps s
  | runupTimeout => exact execRunupTimeout_keeps s
  | shutdownComplete => exact execShutdownComplete_keeps s
  | coolingPeriod gate house => exact execCoolingPeriod_keeps gate house s
  | fanSpinUpEnd => exact execFanSpinUpEnd_keeps s
  | fanTachEdge => exact execFanTachEdge_keeps s
  | fanGapTimeout => exact execFanGapTimeout_keeps s
  | fanRecoveryGap => exact execFanRecoveryGap_keeps s
  | fanRecovered => exact execFanRecovered_keeps s
  | brakeEnd => exact execBrakeEnd_keeps s
  | reelPulse => exact execReelPulse_keeps s
  | tapeEnd => exact execTapeEnd_keeps s
  | tapeSecond => exact execTapeSecond_keeps s
  | audioPeriod => exact execAudioPeriod_keeps s
  | cueEdge => exact execCueEdge_keeps s
  | decodePass => exact execDecodePass_keeps s
  | cellBoundary => exact execCellBoundary_keeps s
  | dischargeEnd => exact execDischargeEnd_keeps s
  | detectPeriod v => exact execDetectPeriod_keeps v s
  | lineDetected => exact execLineDetected_keeps s
  | settlingEnd => exact execSettlingEnd_keeps s
  | lineOvercurrent => exact execLineOvercurrent_keeps s
  | retryTimerEnd => exact execRetryTimerEnd_keeps s
  | quietTimerEnd => exact execQuietTimerEnd_keeps s
  | noAnswerTimeout => exact execNoAnswerTimeout_keeps s
  | leadFrameSent => exact execLeadFrameSent_keeps s
  | replyReceived rx => exact execReplyReceived_keeps rx s
  | replyWindowTimeout low => exact execReplyWindowTimeout_keeps low s
  | receiveLineQuiet => exact execReceiveLineQuiet_keeps s
  | syncTimer => exact execSyncTimer_keeps s
  | pollPeriod => exact execPollPeriod_keeps s
  | followerPoll addr => exact execFollowerPoll_keeps addr s
  | followerSync lead age => exact execFollowerSync_keeps lead age s
  | followerBroadcastCue f => exact execFollowerBroadcastCue_keeps f s
  | linkStopFrame => exact execLinkStopFrame_keeps s
  | linkResumeFrame => exact execLinkResumeFrame_keeps s
  | lineFrameError => exact execLineFrameError_keeps s
  | syncLost => exact execSyncLost_keeps s
  | errTimeout => exact execErrTimeout_keeps s
  | entryTimeout => exact execEntryTimeout_keeps s
  | autoRepeatHoldEnd => exact execAutoRepeatHoldEnd_keeps s
  | read a => exact execRead_keeps a s
  | readDataByte m => exact execReadDataByte_keeps m s
  | write a => exact execWrite_keeps a s
  | writeDataByte b => exact execWriteDataByte_keeps b s
  | setLatch => exact execSetLatch_keeps s
  | clearLatch => exact execClearLatch_keeps s
  | readStatus => exact execReadStatus_keeps s
  | foreignTransaction b => exact execForeignTransaction_keeps b s
  | replyStart => exact execReplyStart_keeps s

theorem execTransactionEnd_preserves (s : State) (e : execTransactionEnd s = .next t) :
    Preserves s t ∧ (FlagsTrack s → FlagsTrack t) := by
  have plain : ∀ {u : State}, Keeps [.path, .usage] s u → Preserves s u ∧ (FlagsTrack s → FlagsTrack u) := fun h =>
    ⟨h.preserves, h.flagsTrack⟩
  have start := Keeps.refl [.path, .usage] s
  unfold execTransactionEnd at e
  obtain rfl := Host.Outcome.next.inj e
  split
  · exact plain start
  · split
    · exact plain (closeTxn_keeps start)
    · exact plain (closeTxn_keeps (endPassed_keeps start))
    · exact plain (finishRead_keeps _ _ List.mem_cons_self (closeTxn_keeps start))
    · exact finishWrite_preserves _ (endLeg_keeps (closeTxn_keeps start))
    · exact plain (endLeg_keeps (closeTxn_keeps start))

/-! ### The resets (R28 to R210) -/

/-- Setting the flags to the conditions that hold touches the flags alone (R210). -/
theorem flagsAfter_preserves (s : State) : Preserves s (flagsAfter s) where

theorem flagsAfter_flagsTrack (s : State) : FlagsTrack (flagsAfter s) := fun f _ held => by
  rw [flagOn_flagsAfter]
  exact held

/-- A transaction that turns foreign keeps what it has gathered (R201). -/
theorem pathAfter_txnWf {p : Path} (h : ∀ x, p.txn = some x → txnWf x = true) (usage tape : Bool) :
    ∀ x, (pathAfter p usage tape).txn = some x → txnWf x = true := by
  intro x e
  obtain ⟨y, hy, rfl⟩ := Option.map_eq_some_iff.mp e
  exact txnWf_of_same rfl rfl rfl rfl (h y hy)

/-- The blocks that both resets leave alike (R28, R57, R83, R84, R129, R143, R167, R180, R201). -/
structure AfterReset (r : ResetSense) (t : State) : Prop where
  engine : t.engine = resetEngine
  transport : t.transport = resetTransport r
  lamp : t.lamp.state = .off ∧ t.lamp.goingOff = none ∧ t.lamp.duty = 0 ∧ t.lamp.level = 0 ∧
    t.lamp.ramp = (resetLamp r).ramp
  deck : t.deck = { resetDeck with counter := t.deck.counter }
  decoder : t.decoder = resetDecoder
  writer : t.writer = resetWriter
  line : ∃ now, t.line = resetLine now
  handset : t.handset = resetHandset
  log : t.log = resetLog
  path : ∃ p usage tape, t.path = pathAfter p usage tape

section
variable {r : ResetSense} (h : AfterReset r t)
include h

theorem AfterReset.rest : t.transport.state = .unhomed ∨ t.transport.state = .noTray := by
  rw [h.transport]
  cases e : r.tray <;> simp [resetTransport, e]

theorem AfterReset.settled : TransportSettled t := by
  have still := h.rest
  have phase : t.transport.phase = .none := by simp [h.transport, resetTransport]
  refine ⟨?_, fun _ => ?_, by simp [phase], ?_, ?_, fun _ => by simp [h.transport, resetTransport]⟩
  · rcases still with e | e <;> simp [e, phase]
  · simp [h.transport, resetTransport]
  · rcases still with e | e <;> simp [e]
  · rcases still with e | e <;> simp [e]

theorem AfterReset.owned : CycleOwned t :=
  cycleOwned_of_none (by simp [h.engine, resetEngine]) (by rcases h.rest with e | e <;> simp [e])

theorem AfterReset.map : MapSound t := by
  obtain ⟨p, usage, tape, e⟩ := h.path
  exact ⟨by simp [e, pathAfter, resetPath], by simp [e, pathAfter, resetPath], by simp [e, pathAfter, resetPath],
    by simp [h.engine, resetEngine]⟩

theorem AfterReset.writerClear : WriterClear t :=
  ⟨by simp [h.writer, resetWriter], by rw [h.writer]; rfl, by simp [h.writer, resetWriter]⟩

theorem AfterReset.buffers : BuffersBounded t := by
  obtain ⟨now, e⟩ := h.line
  exact ⟨by simp [h.engine, resetEngine], by simp [e, resetLine], by simp [h.decoder, resetDecoder], by simp [e, resetLine],
    by simp [h.handset, resetHandset], by simp [h.decoder, resetDecoder], by simp [h.decoder, resetDecoder]⟩

theorem AfterReset.logSequential : LogSequential t := ⟨by simp [h.log, resetLog], by simp [h.log, resetLog]⟩

theorem AfterReset.cell : CellBounded t :=
  ⟨by simp [h.decoder, resetDecoder], by simp [h.decoder, resetDecoder], by simp [h.decoder, resetDecoder]⟩

theorem AfterReset.role : RoleAgrees t := by
  obtain ⟨now, line⟩ := h.line
  obtain ⟨p, usage, tape, path⟩ := h.path
  have lead : lineRole defaultSettings = .lead := by decide
  exact ⟨by simp [line, path, resetLine, pathAfter, resetPath, lead], by simp [line, resetLine]⟩

theorem AfterReset.transportTimed : TransportTimed t :=
  (transportTimed_iff t).mpr ⟨moveTimed_of_still (by simp [h.transport, resetTransport]) (by simp [h.transport, resetTransport])
    (by simp [h.transport, resetTransport]), by simp [FocusTimed, h.transport, resetTransport]⟩

theorem AfterReset.deckTimed : DeckTimed t := by
  have mode : t.deck.mode = .stop := by rw [h.deck]; rfl
  have pending : t.deck.pending = none := by rw [h.deck]; rfl
  exact ⟨by simp [mode], by simp [pending], by simp [mode, DeckMode.moving], by simp [mode],
    by simp [mode, h.writer, resetWriter], by simp [mode, h.decoder, resetDecoder], by simp [h.decoder, resetDecoder]⟩

theorem AfterReset.lineTimed : LineTimed t := by
  obtain ⟨now, e⟩ := h.line
  refine (lineTimed_iff t).mpr ⟨⟨?_, ?_, ?_, ?_, ?_, ?_, ?_⟩, ?_, ?_⟩ <;>
    simp [e, resetLine, LineState.powered, EntryTimed, HoldTimed, h.handset, resetHandset]

theorem AfterReset.drive (paid : t.power.state = .standby → t.power.owed = false) : DriveSafe t := by
  obtain ⟨off, mark, duty, -⟩ := h.lamp
  exact ⟨by simp [duty], fun _ => ⟨.inl off, by rcases h.rest with e | e <;> simp [e]⟩, paid, by simp [mark]⟩

theorem AfterReset.levels (power : t.power.smoothed ≤ 4095 ∧ t.power.handed ≤ 4095 ∧ t.power.fanDuty ≤ 255 ∧
    t.power.gateTemp ≤ 250 ∧ t.power.houseTemp ≤ 250) : LevelsBounded t := by
  obtain ⟨-, -, duty, level, ramp⟩ := h.lamp
  obtain ⟨smoothed, handed, fan, gate, house⟩ := power
  exact ⟨by simp [level], by simp [ramp, resetLamp], by simp [duty], smoothed, handed, fan, gate, house,
    by rw [h.deck]; simp [resetDeck], by rw [h.deck]; simp [resetDeck]⟩

theorem AfterReset.counters (usage : usageOk t.lamp.usePrimary ∧ usageOk t.lamp.useSpare)
    (counter : -2147483648 ≤ t.deck.counter ∧ t.deck.counter ≤ 2147483647) (cooldown : t.power.cooldown ≤ 2550) :
    CountersBounded t := by
  obtain ⟨now, line⟩ := h.line
  obtain ⟨p, loaded, tape, path⟩ := h.path
  exact ⟨usage.1, usage.2, by simp [h.log, resetLog], by simp [path, pathAfter, resetPath], by simp [path, pathAfter, resetPath],
    by simp [h.decoder, resetDecoder], by simp [h.decoder, resetDecoder], by simp [line, resetLine],
    by simp [line, resetLine, absentStation], counter, by rw [h.deck]; simp [resetDeck], cooldown,
    by simp [h.writer, resetWriter]⟩

theorem AfterReset.stores (txn : ∀ x, t.path.txn = some x → txnWf x = true) : StoresCanonical t := by
  obtain ⟨p, usage, tape, path⟩ := h.path
  exact ⟨by rw [path]; rfl, by rw [path]; rfl, by rw [path]; rfl, by rw [path]; exact reset_stores_wf.1,
    by rw [h.writer]; rfl, txn⟩

theorem AfterReset.powerTimed (waits : PowerWaits t.power) : PowerTimed t :=
  (powerTimed_iff t).mpr ⟨fun e => by simp [h.lamp.1] at e, waits⟩

end

theorem powerOnReset_preserves (r : ResetSense) (s : State) :
    Preserves s { resetState r with pending := s.pending, free := s.free, path := pathAfter s.path false false } := by
  have reset : AfterReset r { resetState r with
      pending := s.pending, free := s.free, path := pathAfter s.path false false } :=
    ⟨rfl, rfl, ⟨rfl, rfl, rfl, rfl, rfl⟩, rfl, rfl, rfl, ⟨0, rfl⟩, rfl, rfl, ⟨_, _, _, rfl⟩⟩
  have fresh : usageOk freshUsage := ⟨by decide, by decide, by decide, by decide⟩
  exact
    { drive := fun _ => reset.drive fun _ => rfl
      settled := fun _ => reset.settled
      owned := fun _ => reset.owned
      map := fun _ => reset.map
      stores := fun h => reset.stores (pathAfter_txnWf h.txn _ _)
      writer := fun _ => reset.writerClear
      buffers := fun _ => reset.buffers
      log := fun _ => reset.logSequential
      levels := fun _ => reset.levels (by simp [resetState, resetPower])
      counters := fun _ => reset.counters ⟨fresh, fresh⟩ (by simp [resetState, resetDeck]) (by simp [resetState, resetPower])
      cell := fun _ => reset.cell
      role := fun _ => reset.role
      transport := fun _ _ => reset.transportTimed
      power := fun _ => reset.powerTimed ⟨nofun, nofun, nofun⟩
      deck := fun _ => reset.deckTimed
      line := fun _ => reset.lineTimed }

/-! ### Reset input (R84, R102) -/

theorem reportAtReset_keeps (s : State) : Keeps [.drive] s (reportAtReset s) := by
  unfold reportAtReset
  split
  · exact .refl _ s
  · exact setFan_keeps (fun _ => fanMax_le _) ((Keeps.refl [.drive] s).of_power
      { drive := fun n => absurd List.mem_cons_self n, cooldown := fun _ => Nat.zero_le _ })

/-- A run-up begins afresh, and nothing else of the reported unit changes (R102). -/
theorem powerAfterInput_eq (s : State) : powerAfterInput s = { (reportAtReset s).power with
    runupCount := (powerAfterInput s).runupCount, runupTimer := (powerAfterInput s).runupTimer } := by
  unfold powerAfterInput
  dsimp only
  split <;> rfl

theorem powerAfterInput_waits (h : PowerWaits s.power) : PowerWaits (powerAfterInput s) := by
  have waits := (reportAtReset_keeps s).power h
  unfold powerAfterInput
  dsimp only
  split
  · exact ⟨fun _ => rfl, waits.spinUp, waits.watching⟩
  · exact waits

theorem keptUsage_ok {u : Usage} (h : usageOk u) : usageOk (keptUsage u) := ⟨h.1, Nat.zero_lt_succ _, h.2.2⟩

theorem blocksAfterInput_reset (r : ResetSense) (s : State) : AfterReset r (blocksAfterInput r s) :=
  ⟨rfl, rfl, ⟨rfl, rfl, rfl, rfl, rfl⟩, rfl, rfl, rfl, ⟨_, rfl⟩, rfl, rfl, ⟨_, _, _, rfl⟩⟩

/-- The power unit's state after reset input: cooldown owed in STANDBY takes it to SHUTDOWN, and a SHUTDOWN may be left (R99,
R102). -/
theorem resetInput_keeps (r : ResetSense) (s : State) {u : State} (hu : u = blocksAfterInput r s) :
    Keeps [.drive] u (if u.power.state = .standby ∧ u.power.owed then setPower .shutdown 6 u else testShutdown u) ∧
      DriveSafe (if u.power.state = .standby ∧ u.power.owed then setPower .shutdown 6 u else testShutdown u) := by
  have reset : AfterReset r u := hu ▸ blocksAfterInput_reset r s
  split
  · rename_i owing
    refine ⟨setPower_keeps _ _ (fun n => absurd List.mem_cons_self n) (.refl _ u), ?_⟩
    obtain ⟨off, mark, duty, -⟩ := reset.lamp
    exact .of_powered (.inr (setPower_power _ _ _).1) (by simp [duty]) (by simp [mark])
  · rename_i paid
    have safe := reset.drive fun standby => by simpa [standby] using paid
    exact ⟨testShutdown_keeps (.refl _ u), (testShutdown_keeps (.refl [] u)).drive (by simp) safe⟩

theorem execResetInput_preserves (r : ResetSense) (s : State) (e : execResetInput r s = .next t) :
    Preserves s t ∧ FlagsTrack t := by
  unfold execResetInput at e
  dsimp only at e
  obtain rfl := Host.Outcome.next.inj e
  have reset := blocksAfterInput_reset r s
  have counters : CountersBounded s → CountersBounded (blocksAfterInput r s) := fun g => reset.counters
    ⟨keptUsage_ok g.primary, keptUsage_ok g.spare⟩ (by simpa [blocksAfterInput] using g.counter)
    (by
      have := ((reportAtReset_keeps s).counters g).cooldown
      simp only [blocksAfterInput]
      rw [powerAfterInput_eq]
      exact this)
  have levels : LevelsBounded s → LevelsBounded (blocksAfterInput r s) := fun g => reset.levels (by
    have kept := (reportAtReset_keeps s).levels g
    simp only [blocksAfterInput]
    rw [powerAfterInput_eq]
    exact ⟨kept.smoothed, kept.handed, kept.fan, kept.gate, kept.house⟩)
  have power : PowerTimed s → PowerTimed (blocksAfterInput r s) := fun g =>
    reset.powerTimed (powerAfterInput_waits ((powerTimed_iff s).mp g).2)
  have stores : StoresCanonical s → StoresCanonical (blocksAfterInput r s) := fun g =>
    reset.stores (pathAfter_txnWf g.txn _ _)
  obtain ⟨keeps, safe⟩ := resetInput_keeps r s rfl
  generalize blocksAfterInput r s = u at *
  generalize (if u.power.state = .standby ∧ u.power.owed then setPower .shutdown 6 u else testShutdown u) = v at *
  have moves := (transportTimed_iff u).mp reset.transportTimed
  have line := (lineTimed_iff u).mp reset.lineTimed
  refine ⟨Preserves.trans (t := v) ?_ (flagsAfter_preserves v), flagsAfter_flagsTrack v⟩
  exact
    { drive := fun _ => safe
      settled := fun _ => keeps.settled (by simp) reset.settled
      owned := fun _ => keeps.owned (by simp) reset.owned
      map := fun _ => keeps.map reset.map
      stores := fun g => keeps.stores (stores g)
      writer := fun _ => keeps.writer reset.writerClear
      buffers := fun _ => keeps.buffers reset.buffers
      log := fun _ => keeps.log reset.logSequential
      levels := fun g => keeps.levels (levels g)
      counters := fun g => keeps.counters (counters g)
      cell := fun _ => keeps.cell reset.cell
      role := fun _ => keeps.role (by simp) reset.role
      transport := fun _ _ => (transportTimed_iff v).mpr
        ⟨keeps.moves (by simp) reset.settled moves.1, keeps.focus moves.2⟩
      power := fun g =>
        have ⟨swap, waits⟩ := (powerTimed_iff u).mp (power g)
        (powerTimed_iff v).mpr ⟨keeps.swap (by simp) swap, keeps.power waits⟩
      deck := fun _ => keeps.deck (by simp) reset.deckTimed
      line := fun _ => (lineTimed_iff v).mpr
        ⟨keeps.line (by simp) line.1, keeps.entry (by simp) line.2.1, keeps.hold line.2.2⟩ }

/-! ### Every command, and every step -/

theorem exec_preserves (c : Instr) (s : State) (e : exec c s = .next t) :
    Preserves s t ∧ (FlagsTrack s → FlagsTrack t) := by
  by_cases ends : c = .transactionEnd
  · subst ends
    exact execTransactionEnd_preserves s e
  by_cases power : ∃ r, c = .powerOnReset r
  · obtain ⟨r, rfl⟩ := power
    obtain rfl := Host.Outcome.next.inj e
    exact ⟨(powerOnReset_preserves r s).trans (flagsAfter_preserves _), fun _ => flagsAfter_flagsTrack _⟩
  by_cases input : ∃ r, c = .resetInput r
  · obtain ⟨r, rfl⟩ := input
    obtain ⟨kept, tracked⟩ := execResetInput_preserves r s e
    exact ⟨kept, fun _ => tracked⟩
  have kept := (exec_keeps c s ends (not_exists.mp power) (not_exists.mp input) e).weaken (o' := [.path, .usage])
    fun x hx => by simp [openedBy_subset c x hx]
  exact ⟨kept.preserves, kept.flagsTrack⟩

/-- Taking the next command touches the queue and the count of free readings alone. -/
theorem taken_preserves (s : State) (n : Nat) (p : List Instr) : Preserves s { s with free := n, pending := p } where

theorem taken_flagsTrack (n : Nat) (p : List Instr) (g : FlagsTrack s) : FlagsTrack { s with free := n, pending := p } :=
  fun f hf held => g f hf (by cases f <;> exact held)

/-- As a microsecond passes, the line may make its middle transition, and no block but the writer changes (R132). -/
theorem idle_keeps (s : State) : Keeps [] s (idle s) := by
  obtain ⟨slots, pointer, sequence, timer⟩ := passMiddle_frame s.writer
  have middle : Keeps [] s { s with writer := passMiddle s.writer } := (Keeps.refl [] s).of_tape
    { sorted := by simp [slots], clear := fun g => ⟨by simpa [pointer] using g.pointer, by simpa [slots] using g.sorted,
        by simpa [slots, pointer] using g.clear⟩
      sequence := by simp [sequence]
      timed := fun _ g => ⟨g.brake, g.request, g.watch, g.second, by simpa [timer] using g.cells, g.decoder, g.pass⟩ }
  have passed : Keeps [] s { s with writer :=
      if s.deck.mode = .record ∧ s.writer.cellStart + 1000 ≤ s.clock.now + 1 then passMiddle s.writer else s.writer } := by
    split
    · exact middle
    · exact .refl [] s
  exact passed.of_clock _

theorem step_preserves (e : step s = .next t) : Preserves s t ∧ (FlagsTrack s → FlagsTrack t) := by
  have plain : ∀ {u : State}, Keeps [] s u → Preserves s u ∧ (FlagsTrack s → FlagsTrack u) := fun h =>
    ⟨(h.weaken (by simp)).preserves, (h.weaken (by simp)).flagsTrack⟩
  have runs : ∀ {c : Instr} {n : Nat} {p : List Instr}, exec c { s with free := n, pending := p } = .next t →
      Preserves s t ∧ (FlagsTrack s → FlagsTrack t) := fun {c n p} x =>
    have ran := exec_preserves _ _ x
    ⟨(taken_preserves s n p).trans ran.1, ran.2 ∘ taken_flagsTrack n p⟩
  unfold step at e
  split at e
  · exact runs (n := s.free) e
  · split at e
    · rename_i pending _ _ _
      exact runs (n := s.free + 1) (p := s.pending) e
    · obtain rfl := Host.Outcome.next.inj e
      exact plain (idle_keeps s)

/-- Settles O51: the duty is above 0 only in LIT, which no lamp is without mains (R85). -/
theorem stepKeepsDriveSafe : Obligations.StepKeepsDriveSafe := by
  intro s t h e
  have safe := (step_preserves e).1.drive h
  refine ⟨safe, fun driven => ?_⟩
  rw [mainsOn, decide_eq_true_eq]
  intro standby
  have dark := (safe.dark (.inl standby)).1
  simp [safe.lit driven] at dark

/-- Settles O52. -/
theorem stepKeepsTransportSettled : Obligations.StepKeepsTransportSettled := fun _ _ h e => (step_preserves e).1.settled h

/-- Settles O53. -/
theorem stepKeepsCycleOwned : Obligations.StepKeepsCycleOwned := fun _ _ h e => (step_preserves e).1.owned h

/-- Settles O54. -/
theorem stepKeepsMapSound : Obligations.StepKeepsMapSound := fun _ _ h e => (step_preserves e).1.map h

/-- Settles O55. -/
theorem stepKeepsStoresAndQueues : Obligations.StepKeepsStoresAndQueues :=
  ⟨⟨fun _ _ h e => (step_preserves e).1.stores h, fun _ _ h e => (step_preserves e).1.writer h⟩,
    fun _ _ h e => (step_preserves e).1.buffers h⟩

/-- Settles O56. -/
theorem stepKeepsLogSequential : Obligations.StepKeepsLogSequential := fun _ _ h e => (step_preserves e).1.log h

/-- Settles O57. -/
theorem stepKeepsLevelsAndCounters : Obligations.StepKeepsLevelsAndCounters :=
  ⟨fun _ _ h e => (step_preserves e).1.levels h,
    fun _ _ h e => (step_preserves e).1.counters h, fun _ _ h e => (step_preserves e).1.cell h⟩

/-- Settles O58. -/
theorem stepKeepsRoleAgrees : Obligations.StepKeepsRoleAgrees := fun _ _ h e => (step_preserves e).1.role h

/-- Settles O59. -/
theorem stepKeepsFlagsTracking : Obligations.StepKeepsFlagsTracking := fun _ _ h e => (step_preserves e).2 h

/-- Settles O60. -/
theorem stepKeepsWaitsTimed : Obligations.StepKeepsWaitsTimed :=
  ⟨⟨fun _ _ settled h e => (step_preserves e).1.transport settled h, fun _ _ h e => (step_preserves e).1.power h⟩,
    fun _ _ h e => (step_preserves e).1.deck h, fun _ _ h e => (step_preserves e).1.line h⟩

end Sys2Proof.Machine
end

section
/-! PROOFS. The block as a machine, what outlasts every command, and the invariants at reset. -/

namespace Sys2Proof.Machine

set_option Elab.async false

/-! ### The block as a machine -/

/-- Settles O1. -/
theorem stepRunsFrontCommand : Obligations.StepRunsFrontCommand := by
  intro c rest s queued
  simp [step, queued]

theorem tickClock_eq (c : Clock) : tickClock c = { c with
    now := c.now + 1, micros := c.micros + 1
    subMs := if c.subMs < 999 then c.subMs + 1 else 0
    showClock := if c.subMs < 999 then c.showClock else c.showClock + 1 } := by
  unfold tickClock
  by_cases h : 999 ≤ c.subMs
  · simp [h, Nat.not_lt.mpr h]
  · simp [h, Nat.lt_of_not_le h]

/-- The middle transition is all that a microsecond makes of the writer (R132). -/
theorem idle_writer (s : State) : (idle s).writer.slots = s.writer.slots ∧ (idle s).writer.pointer = s.writer.pointer ∧
    (idle s).writer.sequence = s.writer.sequence := by
  obtain ⟨slots, pointer, sequence, -⟩ := passMiddle_frame s.writer
  unfold idle
  dsimp only
  split
  · exact ⟨slots, pointer, sequence⟩
  · exact ⟨rfl, rfl, rfl⟩

/-- Settles O2. -/
theorem emptyQueueRunsDueEventOrTick : Obligations.EmptyQueueRunsDueEventOrTick := by
  refine ⟨fun c s empty due => by simp [step, empty, due], fun s empty due => ⟨idle s, by simp [step, empty, due], ?_, rfl,
    idle_writer s⟩⟩
  exact tickClock_eq s.clock

/-! ### The resets (R28, R57, R84, R102, R129, R201, R210) -/

/-- The fan leaves the temperatures as they were read (R92). -/
theorem setFan_temps (f : Nat) (s : State) :
    (setFan f s).power.gateTemp = s.power.gateTemp ∧ (setFan f s).power.houseTemp = s.power.houseTemp := by
  unfold setFan
  split
  · exact ⟨rfl, rfl⟩
  · split <;> exact ⟨rfl, rfl⟩

/-- A change of the power state keeps the temperatures and the smoothed power (R85). -/
theorem setPower_readings (st : PowerState) (cause : Nat) (s : State) :
    (setPower st cause s).power.gateTemp = s.power.gateTemp ∧ (setPower st cause s).power.houseTemp = s.power.houseTemp ∧
      (setPower st cause s).power.smoothed = s.power.smoothed := by
  cases st <;> simp only [setPower, enterPower] <;> (repeat' split) <;> simp [setFan_temps]

/-- What the change of the power state that ends a reset input leaves as it was (R102). -/
structure PowerChanged (u v : State) : Prop where
  pending : v.pending = u.pending
  free : v.free = u.free
  clock : v.clock = u.clock
  engine : v.engine = u.engine
  lamp : v.lamp = u.lamp
  deck : v.deck = u.deck
  decoder : v.decoder = u.decoder
  line : v.line = u.line
  path : v.path = u.path
  transport : v.transport = u.transport ∨ v.transport = (stopFocus u).transport
  temps : v.power.gateTemp = u.power.gateTemp ∧ v.power.houseTemp = u.power.houseTemp
  cooling : v.power.band = u.power.band ∧ v.power.smoothed = u.power.smoothed
  cooldown : v.power.owed = u.power.owed ∧ v.power.cooldown = u.power.cooldown
  log : v.log = u.log ∨ ∃ st cause, v.log = (postGate .power .cooling noCue st cause u).log

theorem PowerChanged.refl (u : State) : PowerChanged u u :=
  ⟨rfl, rfl, rfl, rfl, rfl, rfl, rfl, rfl, rfl, .inl rfl, ⟨rfl, rfl⟩, ⟨rfl, rfl⟩, ⟨rfl, rfl⟩, .inl rfl⟩

theorem setPower_changed (st : PowerState) (cause : Nat) (u : State) : PowerChanged u (setPower st cause u) := by
  obtain ⟨-, owed, cooldown, band⟩ := setPower_power st cause u
  obtain ⟨gate, house, smoothed⟩ := setPower_readings st cause u
  exact ⟨by simp, by simp, by simp, by simp, by simp, by simp, by simp, by simp, by simp, setPower_transport_cases st cause u, ⟨gate, house⟩,
    ⟨band, smoothed⟩, ⟨owed, cooldown⟩, .inr ⟨_, _, setPower_log st cause u⟩⟩

theorem testShutdown_changed (u : State) : PowerChanged u (testShutdown u) := by
  rcases testShutdown_cases u with ⟨-, kept⟩ | ⟨-, left⟩
  · rw [kept]; exact .refl u
  · rw [left]; exact setPower_changed _ _ u

/-- After a reset input the flags stand for the conditions, and all but the power unit is as the blocks were left (R102, R210). -/
theorem exec_resetInput_changed (r : ResetSense) (s : State) :
    ∃ v, exec (.resetInput r) s = .next (flagsAfter v) ∧ PowerChanged (blocksAfterInput r s) v := by
  refine ⟨_, exec_resetInput r s, ?_⟩
  split
  · exact setPower_changed _ _ _
  · exact testShutdown_changed _

/-- No condition holds right after power-on, so that no flag is set (R210). -/
theorem powerOn_log (r : ResetSense) (s : State) : (flagsAfter { resetState r with
    pending := s.pending, free := s.free, path := pathAfter s.path false false }).log = resetLog := by
  have clear : (flagsAfter { resetState r with
      pending := s.pending, free := s.free, path := pathAfter s.path false false }).log.flags = 0 := by
    refine (flags_eq_zero_iff _).mpr fun f => ?_
    rw [flagOn_flagsAfter, persists_flagsAfter]
    cases f with
    | jam => cases e : r.tray <;> simp [persists, resetState, resetTransport, e]
    | _ => rfl
  simpa [flagsAfter, resetState, resetLog] using clear

theorem foreignTxn_kind {x : Txn} {old : Option Txn} (h : foreignTxn old = some x) : x.kind = .passing := by
  obtain ⟨y, -, rfl⟩ := Option.map_eq_some_iff.mp h
  rfl

/-- Settles O5. -/
theorem powerOnResetState : Obligations.PowerOnResetState := by
  intro r s
  refine ⟨_, exec_powerOnReset r s, ?_⟩
  rw [powerOn_log]
  simp only [flagsAfter, resetState, resetEngine, resetTransport, resetLamp, resetPower, resetDeck, resetDecoder, resetLine,
    pathAfter, resetPath, resetLog, resetClock, armed, mainsOn]
  have socket : resetSocket r = if r.endSpare && !r.endPrimary then .spare else .primary := by
    cases primary : r.endPrimary <;> cases spare : r.endSpare <;> simp [resetSocket, carriageOf, primary, spare]
  simp only [socket, freshUsage, emptyCapture]
  simp
  exact fun x => foreignTxn_kind

/-- Cooldown is owed from the start where the lamp was not OFF; nothing else the report leaves is lost (R99, R102). -/
theorem powerAfterInput_power (s : State) : (powerAfterInput s).gateTemp = s.power.gateTemp ∧
    (powerAfterInput s).houseTemp = s.power.houseTemp ∧ (powerAfterInput s).band = s.power.band ∧
    (powerAfterInput s).smoothed = s.power.smoothed ∧
    (s.lamp.state ≠ .off → (powerAfterInput s).owed = true ∧ (powerAfterInput s).cooldown = 0) := by
  rw [powerAfterInput_eq]
  unfold reportAtReset
  split <;> simp_all [setFan_temps]

/-- Settles O6. -/
theorem resetInputKeepsAndClears : Obligations.ResetInputKeepsAndClears := by
  intro r s
  obtain ⟨v, run, -, -, clock, engine, lamp, deck, decoder, line, path, transport, temps, cooling, cooldown, log⟩ :=
    exec_resetInput_changed r s
  obtain ⟨gate, house, band, smoothed, owed⟩ := powerAfterInput_power s
  have engine' : (flagsAfter v).engine = resetEngine := engine
  have line' : (flagsAfter v).line = resetLine s.clock.now := line
  have deck' : (flagsAfter v).deck = { resetDeck with counter := s.deck.counter } := deck
  have decoder' : (flagsAfter v).decoder = resetDecoder := decoder
  have lamp' : (flagsAfter v).lamp = lampAfterInput r s.lamp := lamp
  have path' : (flagsAfter v).path = pathAfter s.path s.path.usageLoaded s.path.tapeLoaded := path
  refine ⟨_, run, engine, ?_⟩
  rw [path', lamp', line', deck', decoder']
  have motors : (v.transport.state = if r.tray then .unhomed else .noTray) ∧ v.transport.phase = .none ∧
      v.transport.slotInGate = none ∧ v.transport.camRunning = false ∧ v.transport.gate = r.gate ∧
      v.transport.focus = .stopped := by
    rcases transport with e | e <;> rw [e] <;> exact ⟨rfl, rfl, rfl, rfl, rfl, rfl⟩
  have emptied : v.log.lost = 0 ∧ v.log.ring.length ≤ 1 := by
    rcases log with e | ⟨st, cause, e⟩
    · simp [e, blocksAfterInput, resetState, resetLog]
    · simp [e, postGate, post_log, blocksAfterInput, resetState, resetLog]
  obtain ⟨state, phase, slot, cam, gateRead, focus⟩ := motors
  have flag (f : FaultFlag) : flagOn (flagsAfter v) f = persists v f := by rw [flagOn_flagsAfter, persists_flagsAfter]
  rw [flag, flag, flag]
  refine ⟨state, phase, slot, cam, gateRead, focus, rfl, rfl, rfl, rfl, rfl, rfl, rfl, rfl, temps.1.trans gate,
    temps.2.trans house, cooling.1.trans band, cooling.2.trans smoothed,
    fun on => ⟨cooldown.1.trans (owed on).1, cooldown.2.trans (owed on).2⟩, rfl, rfl, rfl, rfl, rfl, rfl, rfl, rfl, rfl, rfl,
    rfl, rfl, fun x => foreignTxn_kind, emptied.1, emptied.2, congrArg Clock.showClock clock, (congrArg Clock.micros clock :),
    ?_, ?_, ?_⟩
  · simp [persists, lamp, blocksAfterInput, lampAfterInput]
  · simp [persists, lamp, blocksAfterInput, lampAfterInput]
  · simp [persists, cooling.1, blocksAfterInput, band]

/-! ### What outlasts every command -/

/-- Settles O22: every command but the end of a transaction keeps the counts or raises them. -/
theorem usageNeverDecreases : Obligations.UsageNeverDecreases := by
  intro c s t e ends power primary spare
  by_cases input : ∃ r, c = .resetInput r
  · obtain ⟨r, rfl⟩ := input
    obtain ⟨v, run, kept⟩ := exec_resetInput_changed r s
    obtain rfl := Host.Outcome.next.inj (run.symm.trans e)
    rw [show (flagsAfter v).lamp = lampAfterInput r s.lamp from kept.lamp]
    exact ⟨Nat.le_refl _, Nat.le_refl _, Nat.le_refl _, Nat.le_refl _⟩
  · obtain ⟨pm, ps, sm, ss⟩ := (exec_keeps c s ends power (not_exists.mp input) e).usage (fun n => nomatch openedBy_subset c _ n) ⟨primary, spare⟩
    exact ⟨pm, ps, sm, ss⟩

/-- Every command but the resets and the end of a transaction completes with the queue and the count as they were. -/
theorem exec_queue (c : Instr) (s : State) (ends : c ≠ .transactionEnd) (power : ∀ r, c ≠ .powerOnReset r)
    (input : ∀ r, c ≠ .resetInput r) : ∃ t, exec c s = .next t ∧ t.pending = s.pending ∧ t.free = s.free := by
  obtain ⟨t, e⟩ : ∃ t, exec c s = .next t := by cases c <;> exact ⟨_, rfl⟩
  have kept := exec_keeps c s ends power input e
  exact ⟨t, e, kept.pending, kept.free⟩

theorem execTransactionEnd_queue (s : State) :
    ∃ t, execTransactionEnd s = .next t ∧ t.pending = s.pending ∧ t.free = s.free := by
  refine ⟨_, rfl, ?_⟩
  split
  · exact ⟨rfl, rfl⟩
  · split <;> simp

/-- Settles O3. -/
theorem commandsLeaveQueueAlone : Obligations.CommandsLeaveQueueAlone := by
  intro c s
  cases c with
  | powerOnReset r => exact ⟨_, exec_powerOnReset r s, rfl, rfl⟩
  | resetInput r =>
    obtain ⟨v, run, kept⟩ := exec_resetInput_changed r s
    exact ⟨_, run, kept.pending, kept.free⟩
  | transactionEnd => exact execTransactionEnd_queue s
  | _ => exact exec_queue _ s nofun nofun nofun

/-! ### The memory link and the rest of the part (R181, R188, R200) -/

/-- Only the memory path changes, and of it nothing that is in force. -/
structure ReachesPathOnly (s t : State) : Prop where
  rest : t = { s with path := t.path } := by exact rfl
  settings : t.path.settings = s.path.settings := by exact rfl
  map : t.path.map = s.path.map := by exact rfl
  showLoaded : t.path.showLoaded = s.path.showLoaded := by exact rfl
  usageLoaded : t.path.usageLoaded = s.path.usageLoaded := by exact rfl
  tapeLoaded : t.path.tapeLoaded = s.path.tapeLoaded := by exact rfl
  reqCode : t.path.reqCode = s.path.reqCode := by exact rfl
  reqResult : t.path.reqResult = s.path.reqResult := by exact rfl

theorem ReachesPathOnly.trans {s t u : State} (h : ReachesPathOnly s t) (k : ReachesPathOnly t u) : ReachesPathOnly s u where
  rest := by
    rw [k.rest, h.rest]
  settings := k.settings.trans h.settings
  map := k.map.trans h.map
  showLoaded := k.showLoaded.trans h.showLoaded
  usageLoaded := k.usageLoaded.trans h.usageLoaded
  tapeLoaded := k.tapeLoaded.trans h.tapeLoaded
  reqCode := k.reqCode.trans h.reqCode
  reqResult := k.reqResult.trans h.reqResult

theorem capture_reaches (c : AddrClass) (b : Byte) (x : Txn) (s : State) : ReachesPathOnly s (capture c b x s) := by
  unfold capture
  split <;> exact {}

theorem readByte_reaches (p : Snapshot) (x : Txn) (m : Byte) (s : State) : ReachesPathOnly s (readByte p x m s) := by
  have captured (c y) : ReachesPathOnly s (sendUp m (capture c m y s)) := (capture_reaches c m y s).trans {}
  unfold readByte
  dsimp only
  split
  · exact {}
  · exact {}
  · exact {}
  · exact {}
  · split <;> exact {}
  · exact captured _ _
  · exact captured _ _
  · exact captured _ _
  · exact captured _ _

theorem absorb_reaches (c : AddrClass) (b : Byte) (x : Txn) (s : State) : ReachesPathOnly s (absorb c b x s) := by
  unfold absorb
  split <;> exact {}

theorem writeByte_reaches (x : Txn) (b : Byte) (s : State) : ReachesPathOnly s (writeByte x b s) := by
  have ended : ReachesPathOnly s (endLeg s) := {}
  unfold writeByte
  dsimp only
  split
  · exact absorb_reaches _ _ _ _
  · split
    · exact .trans {} (absorb_reaches _ _ _ _)
    · split
      · exact ended.trans (absorb_reaches _ _ _ _)
      · exact ended.trans (absorb_reaches _ _ _ _)
      · exact {}
      · exact (capture_reaches _ _ _ _).trans {}

theorem writeUnlatched_reaches (x : Txn) (b : Byte) (s : State) : ReachesPathOnly s (writeUnlatched x b s) := by
  unfold writeUnlatched
  dsimp only
  split
  · exact {}
  · split <;> exact {}

theorem startRead_reaches (a : AddrPhase) (s : State) : ReachesPathOnly s (startRead a s) := by
  unfold startRead
  split <;> exact {}

theorem startWrite_reaches (a : AddrPhase) (s : State) : ReachesPathOnly s (startWrite a s) := by
  unfold startWrite
  split <;> exact {}

theorem startByte_reaches (b : Byte) (s : State) : ReachesPathOnly s (startByte b s) := by
  unfold startByte
  split
  · exact startRead_reaches _ s
  · exact startWrite_reaches _ s
  all_goals exact {}

/-- A command that opens a transaction closes one that passes first, where one is in progress. -/
theorem startTxn_reaches {f : State → State} (start : ∀ u, ReachesPathOnly u (f u)) (s : State) :
    ReachesPathOnly s (startTxn f s) := by
  have passed : ReachesPathOnly s (endPassed s) := {}
  unfold startTxn
  split
  · exact passed.trans (start _)
  · exact {}

theorem execReadDataByte_reaches (m : Byte) (s : State) : ∃ t, execReadDataByte m s = .next t ∧ ReachesPathOnly s t := by
  refine ⟨_, rfl, ?_⟩
  split
  · exact {}
  · split
    · exact {}
    · exact {}
    · exact readByte_reaches _ _ _ s
    · exact {}

theorem execWriteDataByte_reaches (b : Byte) (s : State) : ∃ t, execWriteDataByte b s = .next t ∧ ReachesPathOnly s t := by
  have passed : ReachesPathOnly s (if s.path.legOpen then forward b s else s) := by
    split <;> exact {}
  refine ⟨_, rfl, ?_⟩
  split
  · exact {}
  · split
    · exact passed
    · exact passed
    · exact {}
    · exact writeByte_reaches _ _ s
    · exact writeUnlatched_reaches _ _ s

/-- Settles O49. -/
theorem transactionsActOnlyAtEnd : Obligations.TransactionsActOnlyAtEnd := by
  refine ⟨fun c s link => ?_, fun c s t e read readByte write writeByte set clear status foreign ends power input => ?_⟩
  · suffices ∃ t, exec c s = .next t ∧ ReachesPathOnly s t by
      obtain ⟨t, run, h⟩ := this
      exact ⟨t, run, h.rest, h.settings, h.map, h.showLoaded, h.usageLoaded, h.tapeLoaded, h.reqCode, h.reqResult⟩
    obtain ⟨a, rfl⟩ | ⟨m, rfl⟩ | ⟨a, rfl⟩ | ⟨b, rfl⟩ | rfl | rfl | rfl | ⟨b, rfl⟩ := link
    · exact ⟨_, rfl, startTxn_reaches (startRead_reaches a) s⟩
    · exact execReadDataByte_reaches m s
    · exact ⟨_, rfl, startTxn_reaches (startWrite_reaches a) s⟩
    · exact execWriteDataByte_reaches b s
    · exact ⟨_, rfl, startTxn_reaches (fun _ => {}) s⟩
    · exact ⟨_, rfl, startTxn_reaches (fun _ => {}) s⟩
    · exact ⟨_, rfl, startTxn_reaches (fun _ => {}) s⟩
    · exact ⟨_, rfl, startTxn_reaches (startByte_reaches b) s⟩
  · have none : openedBy c = [] := by
      unfold openedBy
      split <;> simp_all
    exact (exec_keeps c s ends power input e).path (by simp [none])

/-! ### The invariants at reset -/

theorem reset_afterReset : AfterReset restingSense State.reset :=
  ⟨rfl, rfl, ⟨rfl, rfl, rfl, rfl, rfl⟩, rfl, rfl, rfl, ⟨0, rfl⟩, rfl, rfl, ⟨resetPath, false, false, rfl⟩⟩

theorem reset_flagsTrack : FlagsTrack State.reset := by
  intro f _ held
  cases f <;> exact absurd held (by decide)

/-- Settles O50. -/
theorem invariantsHoldAtReset : Obligations.InvariantsHoldAtReset :=
  have fresh : usageOk freshUsage := ⟨by decide, by decide, by decide, by decide⟩
  have reset := reset_afterReset
  ⟨reset.drive fun _ => rfl, reset.settled, reset.owned, reset.map, reset.stores nofun, reset.writerClear, reset.buffers,
    reset.logSequential, reset.levels (by decide), reset.counters ⟨fresh, fresh⟩ (by decide) (by decide), reset.cell,
    reset.role, reset_flagsTrack, reset.transportTimed, reset.powerTimed ⟨nofun, nofun, nofun⟩, reset.deckTimed,
    reset.lineTimed⟩

end Sys2Proof.Machine
end

section
/-! PROOFS. The cue engine: taking, resolving and starting a cue. -/

namespace Sys2Proof.Machine

set_option Elab.async false

/-! ### Taking a cue (R10) -/

theorem execCueTake_of_ready {s : State} {c : Cue} {rest : List Cue} (queued : s.engine.queue = c :: rest)
    (unheld : s.engine.runState ≠ .held) (idle : s.engine.cue = none) :
    execCueTake s = .next (resolveCue c { s with engine := { s.engine with queue := rest } }) := by
  simp [execCueTake, takeReady, queued, unheld, idle]

theorem execCueTake_of_unready {s : State} (unready : takeReady s = false) : execCueTake s = .next s := by
  simp [execCueTake, unready]

theorem takeReady_eq_false {s : State} (h : s.engine.runState = .held ∨ s.engine.queue = [] ∨
    ∃ e, s.engine.cue = some e ∧ (e.phase ≠ .fadingIn ∨ e.cycle = true)) : takeReady s = false := by
  rcases h with held | empty | ⟨e, executing, phase | cycle⟩
  · simp [takeReady, held]
  · simp [takeReady, empty]
  · simp [takeReady, executing, phase]
  · simp [takeReady, executing, cycle]

/-- A fade with no cue to cut cuts nothing (R14). -/
theorem cutFade_of_none {s : State} (idle : s.engine.cue = none) : cutFade s = s := by simp [cutFade, idle]

/-- Only a LINK cue starts at a time of its own (R17). -/
theorem startTime_of_local {s : State} {c : Cue} (src : c.source ≠ .link) : startTime c false s = s.clock.showClock := by
  unfold startTime
  split
  · contradiction
  · split
    · exact absurd ‹_› src
    · rfl

theorem checkLate_of_local {c : Cue} (src : c.source ≠ .link) (n : Word) (t : Clock32) (s : State) :
    checkLate c n t s = s := by simp [checkLate, src]

theorem learnPlacement_of_kind {c : Cue} (kind : c.kind ≠ .advance) (p : Plan) (s : State) : learnPlacement c p s = s := by
  simp [learnPlacement, kind]

/-- Settles O7. -/
theorem cuesAreTakenOrWait : Obligations.CuesAreTakenOrWait := by
  refine ⟨fun s c rest queued kind src unheld idle silent lit => ?_,
    fun s h => execCueTake_of_unready (takeReady_eq_false h)⟩
  have advance : c.kind ≠ .advance := by simp [kind]
  refine (execCueTake_of_ready queued unheld idle).trans (congrArg Host.Outcome.next ?_)
  have quiet : ∀ x : Engine, broadcasts { s with engine := x } = false := fun _ => silent
  simp [resolveCue, kind, beginExecution, quiet, startTime_of_local src, cutFade_of_none, idle, announce_silent,
    checkLate_of_local src, learnPlacement_of_kind advance, startCue, plainPlan, entryAudio, startAction, enterFadingOut, lit,
    setRamp, noCue]

/-! ### The start of a cue (R18 to R22) -/

/-- Settles O9. -/
theorem scheduledFadeStarts : Obligations.ScheduledFadeStarts := by
  intro s e executing waiting fade entry lit
  refine congrArg Host.Outcome.next ?_
  cases audio : e.plan.audio <;>
    simp [executing, waiting, startCue, entry, entryAudio, audio, startAction, fade, enterFadingIn, lit, setRamp, audioRamp]

theorem setDeckMode_audio (m : DeckMode) (s : State) : (setDeckMode m s).deck.audio = s.deck.audio := by
  unfold setDeckMode
  split <;> rfl

/-- A mode request leaves the fader where it is (R104, R112). -/
theorem deckRequest_audio (m : DeckMode) (s : State) : (deckRequest m s).deck.audio = s.deck.audio := by
  unfold deckRequest startBraking
  dsimp only
  (repeat' split) <;> simp [setDeckMode_audio]

/-- Settles O10: nothing executes, and the broadcast reaches no block but the line and the log. -/
theorem endCueStopsShow : Obligations.EndCueStopsShow := by
  intro s c rest queued kind unheld idle
  refine ⟨_, execCueTake_of_ready queued unheld idle, ?_⟩
  simp [resolveCue, kind, endShow, cutFade_of_none, idle, fadeAudioOut, deckRequest_audio]

/-! ### The lookahead (R11) -/

/-- Entries that are loaded and carry other numbers are passed. -/
theorem lookup_pass {s : State} {n : Word} (named : n ≠ noCue) : ∀ {k i fuel d x : Nat},
    (∀ m, m < k → entryLoaded s (i + m) = true ∧ (rawEntry s.path.program.bytes (i + m)).cueNo ≠ n) →
    ∃ d', lookup s n i (k + fuel) d x = lookup s n (i + k) fuel d' (x + k) := by
  intro k
  induction k with
  | zero => intro i fuel d x _; exact ⟨d, by simp⟩
  | succ k ih =>
    intro i fuel d x passed
    obtain ⟨loaded, other⟩ := passed 0 (Nat.succ_pos k)
    rw [Nat.add_zero] at loaded other
    have later : ∀ m, m < k → entryLoaded s (i + 1 + m) = true ∧ (rawEntry s.path.program.bytes (i + 1 + m)).cueNo ≠ n := by
      intro m hm
      rw [Nat.add_right_comm, Nat.add_assoc]
      exact passed (m + 1) (Nat.succ_lt_succ hm)
    have rest (d) : ∃ d', lookup s n (i + 1) (k + fuel) d (x + 1) = lookup s n (i + (k + 1)) fuel d' (x + (k + 1)) := by
      obtain ⟨d', e⟩ := ih (fuel := fuel) (d := d) (x := x + 1) later
      exact ⟨d', by rw [e]; congr 1 <;> omega⟩
    rw [Nat.add_right_comm k 1 fuel]
    by_cases disabled : (rawEntry s.path.program.bytes i).cueNo = noCue
    · simpa [lookup, loaded, disabled] using rest (d + 1)
    · simpa [lookup, loaded, disabled, other] using rest d

/-- The search ends unmatched at the last entry it may examine, or at one that is not loaded. -/
theorem lookup_missed {s : State} {n : Word} {k fuel i : Nat} (named : n ≠ noCue) (within : k ≤ fuel)
    (passed : ∀ m, m < k → entryLoaded s (i + m) = true ∧ (rawEntry s.path.program.bytes (i + m)).cueNo ≠ n)
    (ends : k = fuel ∨ entryLoaded s (i + k) = false) : lookup s n i fuel 0 0 = .missed k := by
  obtain ⟨m, rfl⟩ := Nat.exists_eq_add_of_le within
  obtain ⟨d, e⟩ := lookup_pass (fuel := m) (d := 0) (x := 0) named passed
  rw [e, Nat.zero_add]
  cases m with
  | zero => rfl
  | succ m =>
    have unloaded : entryLoaded s (i + k) = false := ends.resolve_left (by omega)
    simp [lookup, unloaded]

theorem lookup_found {s : State} {n : Word} {k fuel i : Nat} (named : n ≠ noCue) (within : k < fuel)
    (passed : ∀ m, m < k → entryLoaded s (i + m) = true ∧ (rawEntry s.path.program.bytes (i + m)).cueNo ≠ n)
    (loaded : entryLoaded s (i + k) = true) (match_ : (rawEntry s.path.program.bytes (i + k)).cueNo = n) :
    ∃ d, lookup s n i fuel 0 0 = .found (i + k) d := by
  obtain ⟨m, rfl⟩ := Nat.exists_eq_add_of_lt within
  obtain ⟨d, e⟩ := lookup_pass (fuel := m + 1) (d := 0) (x := 0) named passed
  exact ⟨d, by rw [Nat.add_assoc, e]; simp [lookup, loaded, match_, named]⟩

/-! ### What an execution leaves of the pointer (R3) -/

theorem enterFadingIn_pointer (e : Executing) (s : State) : (enterFadingIn e s).engine.pointer = s.engine.pointer := by
  unfold enterFadingIn
  (repeat' split) <;> simp

theorem endShow_pointer (t : Nat) (s : State) : (endShow t s).engine.pointer = s.engine.pointer := by
  simp [endShow, fadeAudioOut]

theorem holdRunning_pointer (s : State) : (holdRunning s).engine.pointer = s.engine.pointer := by
  unfold holdRunning
  split <;> simp

/-- The run state once the show is held: RUNNING and LEARNING become HELD (R7). -/
def heldState : RunState → RunState
  | .running => .held
  | .learning => .held
  | r => r

/-- Holding the show reaches the run state alone of the engine (R7). -/
theorem holdShow_engine (s : State) :
    (holdShow s).engine = { s.engine with runState := heldState s.engine.runState } := by
  unfold holdShow
  cases e : s.engine.runState <;> simp [heldState, ← e]

/-- What the abort of a cycle makes of the engine (R25, R7). -/
theorem abortCycle_engine_eq (s : State) : (abortCycle s).engine = { s.engine with
    runState := heldState s.engine.runState, queue := [], cue := s.engine.cue.filter (fun e => !e.cycle) } := by
  unfold abortCycle
  cases executing : s.engine.cue with
  | none => simp [executing, holdShow_engine]
  | some e =>
    cases cycle : e.cycle <;> cases stopping : e.stopping <;>
      simp [executing, holdShow_engine, cycle, stopping, Option.filter]

/-- What a jam makes of the engine (R50, R25). -/
theorem jam_engine (c : JamCause) (s : State) : (jam c s).engine = { s.engine with
    runState := heldState s.engine.runState, queue := [], cue := s.engine.cue.filter (fun e => !e.cycle) } := by
  simp [jam, abortCycle_engine_eq]

theorem startNormal_pointer (v : Transport → Move) (s : State) :
    (startNormal v s).engine.pointer = s.engine.pointer := by
  have latched : (latchTable s).engine = s.engine := by
    unfold latchTable
    dsimp only
    split <;> simp
  have prepared (w : Move) (u : State) : (focusGuard (beginMove .prepared w u)).engine = u.engine := by
    simp
  unfold startNormal liftCheck
  dsimp only
  (repeat' split) <;> simp [jam_engine]

theorem changeRequest_pointer (r : ChangeRequest) (s : State) : (changeRequest r s).engine.pointer = s.engine.pointer := by
  unfold changeRequest
  split
  · simp [startChange, startNormal_pointer, enterCycling]
  · unfold startHoming
    dsimp only
    split <;> simp [startNormal_pointer, enterCycling]
  · rfl
  · simp [abortCycle_engine_eq]

theorem enterFadingOut_pointer (e : Executing) (s : State) : (enterFadingOut e s).engine.pointer = s.engine.pointer := by
  unfold enterFadingOut
  split
  · simp [enterChanging, changeRequest_pointer]
  · simp

/-- No action of an execution moves the pointer (R3). -/
theorem startCue_pointer (e : Executing) (s : State) : (startCue e s).engine.pointer = s.engine.pointer := by
  have audio (p : Plan) (u : State) : (entryAudio p u).engine = u.engine := by
    unfold entryAudio
    (repeat' split) <;> simp
  have action (e : Executing) (u : State) : (startAction e u).engine.pointer = u.engine.pointer := by
    unfold startAction
    split <;> simp [endShow_pointer, holdRunning_pointer, enterFadingIn_pointer, enterFadingOut_pointer]
  simp only [startCue, action, audio]
  split <;> rfl

theorem beginExecution_pointer (c : Cue) (p : Plan) (m : Option LineMsg) (s : State) :
    (beginExecution c p m s).engine.pointer = s.engine.pointer := by
  have cut : (cutFade s).engine.pointer = s.engine.pointer := by
    unfold cutFade
    split <;> simp
  unfold beginExecution
  dsimp only
  (repeat' split) <;> simp [startCue_pointer, cut]

/-- An entry taken for execution is passed, whatever becomes of it (R3, R11). -/
theorem takeEntry_pointer (c : Cue) (j : Nat) (s : State) : (takeEntry c j s).engine.pointer = j + 1 := by
  unfold takeEntry
  dsimp only
  split
  · simp
  · simp [beginExecution_pointer]

/-- Settles O8. -/
theorem lookaheadFindsOrLogsNumber : Obligations.LookaheadFindsOrLogsNumber := by
  refine ⟨fun s c rest n k queued kind running idle named room within passed ends => ?_,
    fun s c rest n k queued kind running idle named within passed loaded found => ?_⟩
  · have unheld : s.engine.runState ≠ .held := by rcases running with e | e <;> simp [e]
    have unstopped : s.engine.runState ≠ .stopped := by rcases running with e | e <;> simp [e]
    refine (execCueTake_of_ready queued unheld idle).trans (congrArg Host.Outcome.next ?_)
    have missed : lookup { s with engine := { s.engine with queue := rest } } n s.engine.pointer
        (lookahead s.path.settings) 0 0 = .missed k := lookup_missed named within passed ends
    simp only [resolveCue, kind, takeNumbered, unstopped, if_false, missed]
    simp [postGate, post, room]
  · have unheld : s.engine.runState ≠ .held := by rcases running with e | e <;> simp [e]
    have unstopped : s.engine.runState ≠ .stopped := by rcases running with e | e <;> simp [e]
    refine ⟨_, execCueTake_of_ready queued unheld idle, ?_⟩
    obtain ⟨d, hit⟩ : ∃ d, lookup { s with engine := { s.engine with queue := rest } } n s.engine.pointer
        (lookahead s.path.settings) 0 0 = .found (s.engine.pointer + k) d := lookup_found named within passed loaded found
    simp only [resolveCue, kind, takeNumbered, unstopped, if_false, hit]
    exact takeEntry_pointer _ _ _

end Sys2Proof.Machine
end

section
/-! PROOFS. The slide transport: steps and stalls, the homing search, the cam, jams, and the ends of a cycle. -/

namespace Sys2Proof.Machine

set_option Elab.async false

/-! ### Tray steps and stalls (R32 to R34) -/

theorem execTrayStep_of_stepping {s : State} {v : Move} (cycling : s.transport.state = .cycling)
    (move : s.transport.move = some v) (stepping : v.status = .stepping) (left : 0 < v.remaining) :
    execTrayStep s = .next (dueStep v s) := by
  simp [execTrayStep, cycling, move, inProgress, stepping, left]

theorem execStallSensed_of_stepping {s : State} {v : Move} (cycling : s.transport.state = .cycling)
    (move : s.transport.move = some v) (stepping : v.status = .stepping) (left : 0 < v.remaining) :
    execStallSensed s = .next (stall v s) := by
  simp [execStallSensed, cycling, move, inProgress, stepping, left]

/-- In a TRAY_FREE window a move of some steps begins at once, as a fresh profile (R32, R33). -/
theorem beginMove_of_free {w : MoveStatus} {v : Move} {s : State} (left : 0 < v.remaining)
    (free : trayFree s.transport = true) : beginMove w v s = { s with transport := { s.transport with
      move := some (withRates s.path.settings { v with status := .stepping, done := 0 })
      stepTimer := startTimer (stepInterval (withRates s.path.settings { v with status := .stepping, done := 0 })) s } } := by
  simp [beginMove, free, Nat.pos_iff_ne_zero.mp left]

/-- Settles O11. -/
theorem trayStepsAndStalls : Obligations.TrayStepsAndStalls := by
  refine ⟨fun s v count cycling move stepping walk left at_ => ⟨fun free => ?_, fun shut => ?_⟩,
    fun s v cycling move stepping walk left fresh => ?_, fun s v cycling move paused walk left free => ?_⟩
  · refine (execTrayStep_of_stepping cycling move stepping (by omega)).trans (congrArg Host.Outcome.next ?_)
    have more : v.remaining - 1 ≠ 0 := by omega
    cases dir : v.dir <;>
      simp [dueStep, free, walk, moveStep, more, at_, dir, stepOn, awaitStep, startTimer, stepInterval, stepRate, turnSteps]
  · refine (execTrayStep_of_stepping cycling move stepping (by omega)).trans (congrArg Host.Outcome.next ?_)
    simp [dueStep, shut]
  · refine (execStallSensed_of_stepping cycling move stepping left).trans (congrArg Host.Outcome.next ?_)
    simp [stall, fresh, startTimer]
  · refine congrArg Host.Outcome.next ?_
    simp only [cycling, move, paused, if_true]
    rw [beginMove_of_free left (by exact free)]
    simp [withRates, startTimer, stepInterval, stepRate, walk]

/-! ### The homing search (R49) -/

/-- From the index the shorter way is forward up to half a turn (R31). -/
theorem fromIndex_eq {t : Transport} (some_ : 1 ≤ t.target) (within : t.target ≤ t.size) :
    (fromIndex t).dir = (if 2 * t.target ≤ t.size + 1 then .forward else .reverse) ∧
      (fromIndex t).remaining = 64 * min t.target (t.size + 1 - t.target) ∧ (fromIndex t).search = false := by
  have way := shortestPath_positions t.size 0 t.target (Nat.zero_le _)
  have df : (t.target + (t.size + 1) - 0) % (t.size + 1) = t.target := by
    rw [Nat.sub_zero, Nat.add_mod_right, Nat.mod_eq_of_lt (by omega)]
  rw [df] at way
  simp only [fromIndex, preparedMove, turnSteps, Option.getD_some]
  rw [Nat.mul_zero] at way
  rw [way]
  by_cases half : t.target ≤ t.size + 1 - t.target
  · have twice : 2 * t.target ≤ t.size + 1 := by omega
    simp [half, twice]
  · have twice : ¬ 2 * t.target ≤ t.size + 1 := by omega
    simp [half, twice]
    omega

theorem replaceMove_of_stepping {v : Move} {s : State} (left : 0 < v.remaining) :
    replaceMove .stepping v s = beginMove .suspended v s := by
  simp [replaceMove, Nat.pos_iff_ne_zero.mp left]

/-- Settles O12. -/
theorem indexEdgeEndsHomingSearch : Obligations.IndexEdgeEndsHomingSearch := by
  intro s v cycling move search stepping some_ within free
  let u : State := { s with transport := { s.transport with stepCount := some 0, position := some 0, stepTimer := none } }
  obtain ⟨dir, left, plain⟩ := fromIndex_eq (t := u.transport) some_ within
  have more : 0 < (fromIndex u.transport).remaining := by
    rw [left]
    have : 0 < min s.transport.target (s.transport.size + 1 - s.transport.target) := by omega
    exact Nat.mul_pos (by decide) this
  have begun : endSearch v s = beginMove .suspended (fromIndex u.transport) u := by
    show replaceMove v.status (fromIndex u.transport) u = _
    rw [stepping, replaceMove_of_stepping more]
  have ran : execTrayIndexEdge s = .next (beginMove .suspended (fromIndex u.transport) u) := by
    rw [← begun]
    simp [execTrayIndexEdge, cycling, move, inProgress, stepping, search]
  rw [beginMove_of_free more (by exact free)] at ran
  exact ⟨_, _, ran, rfl, rfl, rfl, plain, rfl, rfl, dir, left, rfl⟩

/-! ### The cam (R36, R42, R43) -/

theorem focusGuard_of_stopped {s : State} (stopped : s.transport.focus = .stopped) : focusGuard s = s := by
  simp [focusGuard, stopped]

theorem camAdvanced_angle (tab : CamTable) (a b : Nat) (s : State) :
    (camAdvanced tab a b s).transport.camAngle = s.transport.camAngle := by
  have guarded (u : State) : (focusGuard u).transport.camAngle = u.transport.camAngle := by
    rw [focusGuard_eq]
  have parked (u : State) : (reachPark u).transport.camAngle = u.transport.camAngle := by
    unfold reachPark
    split
    · simp [enterDrop]
    · rfl
  have woken (u : State) : (wakeMove u).transport.camAngle = u.transport.camAngle := by
    unfold wakeMove
    split
    · rename_i v _
      split
      · obtain ⟨w, timer, e, -⟩ := beginMove_spec .suspended v u
        rw [e]
      · rfl
    · rfl
  unfold camAdvanced
  split
  · simp [jam_transport]
  · dsimp only
    rw [guarded]
    split
    · rw [parked, woken]
    · exact woken s

/-- Settles O13. -/
theorem camCountsAndIndexEdge : Obligations.CamCountsAndIndexEdge := by
  refine ⟨⟨fun s a running at_ => ?_, fun s still => ?_⟩, fun s still stopped => ?_,
    fun s running drop unseated slot stopped => ?_⟩
  · refine ⟨_, rfl, ?_⟩
    simp only [running, at_]
    split
    · rfl
    · rfl
    · simp [camAdvanced_angle]
    · rfl
  · refine congrArg Host.Outcome.next ?_
    rcases still with still | still
    · simp [still]
    · simp [still]
  · refine congrArg Host.Outcome.next ?_
    simp [still, focusGuard_of_stopped, stopped]
  · refine congrArg Host.Outcome.next ?_
    simp [running, drop, focusGuard_of_stopped, stopped, enterSeat, unseated, slot, startTimer]

/-! ### Jams (R39, R50) -/

/-- A set flag outlasts the abort of a cycle and the test of R91 (R207). -/
theorem flagOn_abort {s : State} {f : FaultFlag} (h : flagOn s f = true) : flagOn (testShutdown (abortCycle s)) f = true :=
  (testShutdown_keeps (abortCycle_keeps (o := [.owned]) (fun n => absurd (List.mem_singleton_self _) n) (.refl _ s))).flags f h

theorem jam_flagged (c : JamCause) (s : State) : flagOn (jam c s) .jam = true :=
  flagOn_abort (flagOn_setFlag_self _ _)

/-- The state in which a cycle ends with a jam of cause `cause` (R50). -/
structure JamEnd (cause : JamCause) (s t : State) : Prop where
  state : t.transport.state = .jammed
  jamCause : t.transport.jamCause = some cause
  phase : t.transport.phase = .none
  cam : t.transport.camRunning = false
  move : t.transport.move = none
  slot : t.transport.slotInGate = none
  flag : flagOn t .jam = true
  queue : t.engine.queue = []
  run : t.engine.runState = heldState s.engine.runState
  cue : t.engine.cue = s.engine.cue.filter (fun e => !e.cycle)

theorem jam_end (c : JamCause) {s u : State} (same : u.engine = s.engine) : JamEnd c s (jam c u) := by
  have transport := jam_transport c u
  have engine := jam_engine c u
  exact ⟨by rw [transport], by rw [transport], by rw [transport], by rw [transport], by rw [transport], by rw [transport],
    jam_flagged c u, by rw [engine], by rw [engine, same], by rw [engine, same]⟩

theorem execCamEncoderCount_jams {s : State} {a : Nat} {tab : CamTable} {w : CamWindow} (running : s.transport.camRunning = true)
    (seated : s.transport.gate = .seated) (phase : s.transport.phase ≠ .none) (home : s.transport.phase ≠ .camHome)
    (at_ : s.transport.camAngle = some a) (table : s.transport.table = some tab) (mem : w ∈ tab.windows)
    (fn : w.fn = .liftCheck) (before : windowActive w a = false) (after : windowActive w ((a + 1) % 180) = true) :
    execCamEncoderCount s = .next (jam .lift { s with transport := { s.transport with camAngle := some ((a + 1) % 180) } }) := by
  have active : becomesActive tab .liftCheck a ((a + 1) % 180) = true := by
    simp only [becomesActive, List.any_eq_true]
    exact ⟨w, mem, by simp [fn, before, after]⟩
  cases during : s.transport.phase with
  | none => exact absurd during phase
  | camHome => exact absurd during home
  | _ => simp [execCamEncoderCount, running, at_, table, during, camAdvanced, active, seated]

/-- Settles O14. -/
theorem jamsEndTheCycle : Obligations.JamsEndTheCycle := by
  intro c cause s cycling how
  suffices ∃ t, exec c s = .next t ∧ JamEnd cause s t by
    obtain ⟨t, run, h⟩ := this
    refine ⟨t, run, h.state, h.jamCause, h.phase, h.cam, h.move, h.slot, h.flag, h.queue, ?_, fun e executing cycle => ?_⟩
    · rw [h.run]
      cases s.engine.runState <;> rfl
    · simp [h.cue, executing, cycle]
  rcases how with ⟨rfl, rfl, v, move, search, all⟩ | ⟨rfl, rfl, running⟩ | ⟨rfl, rfl, second, v, move, stepping, walk, left⟩ |
    ⟨rfl, rfl, running, seated, phase, home, a, tab, w, at_, table, mem, fn, before, after⟩ |
    ⟨rfl, rfl, seat, gate, retried⟩
  · have exhausted : searchExhausted s.transport = true := by
      simp [searchExhausted, cycling, move, search, searchLimit, turnSteps, all]
    exact ⟨_, congrArg Host.Outcome.next (if_pos exhausted), jam_end _ rfl⟩
  · exact ⟨_, congrArg Host.Outcome.next (if_pos ⟨cycling, running⟩), jam_end _ rfl⟩
  · refine ⟨_, execStallSensed_of_stepping cycling move stepping left, ?_⟩
    have jams : 2 ≤ s.transport.stalls + 1 := by omega
    simp only [stall, jams, if_true]
    exact jam_end _ rfl
  · exact ⟨_, execCamEncoderCount_jams running seated phase home at_ table mem fn before after, jam_end _ rfl⟩
  · refine ⟨jam .seat s, congrArg Host.Outcome.next ?_, jam_end _ rfl⟩
    simp [cycling, seat, gate, retried]

/-! ### The ends of a cycle (R43 to R46, R52, R55) -/

theorem completeCycle_ready {s : State} (kept : s.transport.sizeChanged = false) :
    (completeCycle s).transport.state = .ready ∧ (completeCycle s).transport.phase = .none ∧
      (completeCycle s).transport.position = some s.transport.target ∧
      (completeCycle s).transport.slotInGate = some s.transport.target ∧
      (completeCycle s).transport.stepCount = some (64 * s.transport.target) ∧
      (completeCycle s).transport.seatTimer = none ∧ (completeCycle s).transport.camAngle = s.transport.camAngle := by
  simp [completeCycle_transport, kept]

/-- Settles O15. -/
theorem seatCompletesCycle : Obligations.SeatCompletesCycle := by
  intro c s cycling seat kept how
  rcases how with rfl | ⟨rfl, gate⟩
  · refine ⟨_, rfl, ?_⟩
    simpa [cycling, seat, seatMade] using completeCycle_ready (s := { s with transport := { s.transport with
      gate := .seated, seatedAt := some s.clock.micros } }) kept
  · refine ⟨_, rfl, ?_⟩
    simp only [cycling, seat, and_self, if_true]
    split
    · exact completeCycle_ready kept
    · simpa [emptyGate] using completeCycle_ready (s := post _ _ _ _ _ _ s) (by simpa using kept)
    · exact absurd ‹_› gate

/-- Settles O16. -/
theorem gateTrayAndFocusEvents : Obligations.GateTrayAndFocusEvents := by
  refine ⟨⟨fun s cycling seat gate first stopped => ?_, fun g s unseated => ?_⟩,
    ⟨fun s ready gap => ?_, fun s away => ?_, fun s here => ?_⟩, fun s moving => ?_⟩
  · refine congrArg Host.Outcome.next ?_
    simp [cycling, seat, gate, first, enterRetry, focusGuard_of_stopped, startRevolution, stopped, startTimer]
  · exact congrArg Host.Outcome.next (if_neg unseated)
  · refine congrArg Host.Outcome.next ?_
    simp [ready, gap, enterNoTray, stopMotors]
  · refine congrArg Host.Outcome.next ?_
    simp [away]
  · have flagged : flagOn (enterNoTray (postTrayPulled s)) .trayPulled = true := flagOn_setFlag_self _ _
    rcases here with cycling | ⟨ready, away⟩
    · refine ⟨testShutdown (abortCycle (enterNoTray (postTrayPulled s))), congrArg Host.Outcome.next (by simp only [cycling]),
        ?_⟩
      refine ⟨by simp, by simp [stopMotors], by simp, by simp [stopMotors], flagOn_abort flagged, fun _ => ?_⟩
      have run : (testShutdown (abortCycle (enterNoTray (postTrayPulled s)))).engine.runState =
          heldState s.engine.runState := by simp [abortCycle_engine_eq, postTrayPulled]
      refine ⟨by simp [abortCycle_engine_eq], ?_⟩
      rw [run]
      cases s.engine.runState <;> rfl
    · refine ⟨enterNoTray (postTrayPulled s), congrArg Host.Outcome.next (by simp only [ready, away, if_false]), by simp,
        by simp [stopMotors], by simp, by simp [stopMotors], flagged, ?_⟩
      simp [ready]
  · exact congrArg Host.Outcome.next (if_pos moving)

end Sys2Proof.Machine
end

section
/-! PROOFS. The lamp controller: the lamp period, ramp ends, the carriage, the supply and the usage counts. -/

namespace Sys2Proof.Machine

set_option Elab.async false

/-! ### Leaving LIT with mains on (R62, R82, R99) -/

/-- With mains on, cooldown owed reaches the power unit alone (R99). -/
theorem oweCooldown_lamp_eq {s : State} (powered : s.power.state ≠ .standby) : (oweCooldown s).lamp = s.lamp := by
  simp [oweCooldown, powered]

/-- With mains on, leaving LIT makes the lamp dark and reaches no ramp (R62, R82). -/
theorem leaveLit_lamp_eq {s : State} (st : LampState) (powered : s.power.state ≠ .standby) :
    (leaveLit st s).lamp = { s.lamp with state := st, duty := 0, openCount := 0 } := by
  unfold leaveLit leftLit
  split
  · simp [oweCooldown_lamp_eq (s := { s with lamp := { s.lamp with state := st, duty := 0, openCount := 0 } }) powered]
  · simp

/-- A socket's failure reaches neither level nor ramp (R75). -/
theorem socketFails_ramp {s : State} (kind : Failure) (powered : s.power.state ≠ .standby) :
    (socketFails kind s).lamp.ramp = s.lamp.ramp ∧ (socketFails kind s).lamp.level = s.lamp.level := by
  have marked (k : Socket) (x : SocketState) (l : Lamp) : (setSocket k x l).ramp = l.ramp ∧ (setSocket k x l).level = l.level := by
    cases k <;> exact ⟨rfl, rfl⟩
  unfold socketFails
  dsimp only
  split
  · rw [startSwap_lamp]
    dsimp only
    rw [leaveLit_lamp_eq _ (by simpa using powered)]
    simp [marked]
  · simp only [postNoLamp, setFlag_frame, postGate_frame]
    rw [leaveLit_lamp_eq _ (by simpa using powered)]
    simp [marked]

theorem currentTest_ramp {s : State} (im : Nat) (powered : s.power.state ≠ .standby) :
    (currentTest im s).lamp.ramp = s.lamp.ramp ∧ (currentTest im s).lamp.level = s.lamp.level := by
  unfold currentTest
  split
  · exact ⟨rfl, rfl⟩
  · split
    · exact socketFails_ramp _ powered
    · split
      · split
        · exact socketFails_ramp _ powered
        · exact ⟨rfl, rfl⟩
      · exact ⟨rfl, rfl⟩

theorem countLowSupply_ramp (vs : Nat) (s : State) :
    (countLowSupply vs s).lamp.ramp = s.lamp.ramp ∧ (countLowSupply vs s).lamp.level = s.lamp.level := by
  unfold countLowSupply
  dsimp only
  (repeat' split) <;> simp [postLowSupply]

/-- The duty stages reach neither level nor ramp (R67). -/
theorem dutyStage_ramp (vs : Nat) (s : State) :
    (dutyStage vs s).lamp.ramp = s.lamp.ramp ∧ (dutyStage vs s).lamp.level = s.lamp.level := by
  unfold dutyStage
  split
  · exact countLowSupply_ramp vs s
  · exact ⟨rfl, rfl⟩

/-- A supply reading in RUNUP reaches no lamp (R87). -/
theorem runupReading_lamp (vs : Nat) (s : State) : (runupReading vs s).lamp = s.lamp := by
  unfold runupReading supplyGood
  dsimp only
  (repeat' split) <;> simp

theorem runupReading_of_not_runup {s : State} (vs : Nat) (h : s.power.state ≠ .runup) : runupReading vs s = s := by
  simp [runupReading, h]

/-! ### The lamp period -/

/-- A period of a lamp that is not LIT, once its ramp has moved (R67, R71, R73, R80). -/
theorem darkPeriod (vs im : Nat) {s : State} (dark : s.lamp.state ≠ .lit) (supplied : s.power.state ≠ .runup) :
    runupReading vs (handDuty (countUsage (dutyStage vs (currentTest im s)))) = { s with
      lamp := { s.lamp with
        duty := 0, lowCount := 0, openCount := 0
        usePrimary := { s.lamp.usePrimary with dark := min 6000 (s.lamp.usePrimary.dark + 1) }
        useSpare := { s.lamp.useSpare with dark := min 6000 (s.lamp.useSpare.dark + 1) } }
      power := { s.power with handed := 0 } } := by
  have undriven : mayDrive { s with lamp := { s.lamp with openCount := 0 } } = false := by simp [mayDrive, dark]
  rw [runupReading_of_not_runup]
  · simp [currentTest, dark, dutyStage, undriven, countUsage, usagePeriod, handDuty, satInc]
  · simp [currentTest, dark, dutyStage, undriven, countUsage, handDuty, supplied]

/-- Below N the level moves to the point k of its way (R65). -/
theorem rampStage_running {s : State} (active : s.lamp.ramp.active = true) (running : s.lamp.ramp.k + 1 < s.lamp.ramp.n) :
    rampStage s = { s with lamp := { s.lamp with
      level := lerp s.lamp.ramp.l0 s.lamp.ramp.l1 (s.lamp.ramp.k + 1) s.lamp.ramp.n
      ramp := { s.lamp.ramp with k := s.lamp.ramp.k + 1 } } } := by
  simp [rampStage, active, running]

theorem rampStage_of_still {s : State} (still : s.lamp.ramp.active = false) : rampStage s = s := by
  simp [rampStage, still]

/-! ### The ends of a ramp (R23, R62, R65) -/

theorem execLampRampDone_of_end {s : State} (active : s.lamp.ramp.active = true) (ends : s.lamp.ramp.n ≤ s.lamp.ramp.k + 1) :
    execLampRampDone s = .next (rampDone s) := congrArg Host.Outcome.next (if_pos ⟨active, ends⟩)

/-- The state in which the requester of a ramp hears of its end (R65). -/
def rampEnded (s : State) : State := { s with lamp := { s.lamp with
  level := s.lamp.ramp.l1, ramp := { s.lamp.ramp with k := s.lamp.ramp.k + 1, active := false } } }

theorem rampDone_eq (s : State) : rampDone s = match s.lamp.ramp.requester with
    | some .engine => engineRampDone (rampEnded s)
    | some .off => offRampDone (rampEnded s)
    | none => rampEnded s := by
  unfold rampDone
  cases s.lamp.ramp.requester with
  | none => rfl
  | some r => cases r <;> rfl

/-- An abort reaches no lamp, unless its cue is stopping and the ramp is still to be taken to 0 (R25, R6). -/
theorem abortCycle_lamp {s : State} (going : ∀ e, s.engine.cue = some e → e.stopping = true → s.lamp.ramp.l1 = 0) :
    (abortCycle s).lamp = s.lamp := by
  unfold abortCycle
  cases executing : s.engine.cue with
  | none => simp
  | some e =>
    cases cycle : e.cycle with
    | false => simp [cycle]
    | true =>
      cases stopping : e.stopping with
      | false => simp [cycle, stopping]
      | true => simp [cycle, stopping, finishStopping, noExecuting, going e executing stopping]

theorem jam_lamp {c : JamCause} {s : State} (going : ∀ e, s.engine.cue = some e → e.stopping = true → s.lamp.ramp.l1 = 0) :
    (jam c s).lamp = s.lamp := by
  simp only [jam, testShutdown_frame]
  rw [abortCycle_lamp (by simpa using going)]
  simp

/-- The normal part of a cycle starts, or ends at once in the jam of its lift check (R39, R40). -/
theorem startNormal_cases (v : Transport → Move) (s : State) : ∃ u : State, u.engine = s.engine ∧ u.lamp = s.lamp ∧
    u.power = s.power ∧ (startNormal v s = u ∨ startNormal v s = jam .lift u) := by
  unfold startNormal
  extract_lets latched src run u
  have engine : u.engine = s.engine := by simp [u, run, src, latched]
  have lamp : u.lamp = s.lamp := by simp [u, run, src, latched]
  have power : u.power = s.power := by simp [u, run, src, latched]
  refine ⟨u, engine, lamp, power, ?_⟩
  clear_value u
  split
  · split
    · unfold liftCheck
      split
      · exact .inr rfl
      · exact .inl rfl
    · exact .inl rfl
  · exact .inl rfl

theorem startNormal_lamp {v : Transport → Move} {s : State} (going : ∀ e, s.engine.cue = some e → e.stopping = true → s.lamp.ramp.l1 = 0) :
    (startNormal v s).lamp = s.lamp := by
  obtain ⟨u, engine, lamp, -, started | jammed⟩ := startNormal_cases v s
  · rw [started, lamp]
  · rw [jammed, jam_lamp (by rwa [engine, lamp]), lamp]

theorem changeRequest_lamp {r : ChangeRequest} {s : State} (going : ∀ e, s.engine.cue = some e → e.stopping = true → s.lamp.ramp.l1 = 0) :
    (changeRequest r s).lamp = s.lamp := by
  unfold changeRequest
  split
  · exact startNormal_lamp (s := enterCycling _ s) going
  · unfold startHoming
    dsimp only
    split
    · exact startNormal_lamp (s := enterCycling _ s) going
    · simp [enterCycling]
  · rfl
  · exact abortCycle_lamp going

/-- A ramp's end reaches no lamp, unless its cue is stopping and the ramp is still to be taken to 0 (R23). -/
theorem engineRampDone_lamp {s : State} (going : ∀ e, s.engine.cue = some e → e.stopping = true → s.lamp.ramp.l1 = 0) :
    (engineRampDone s).lamp = s.lamp := by
  unfold engineRampDone
  split
  · rfl
  · rename_i e executing
    dsimp only
    split
    · rfl
    · split
      · exact changeRequest_lamp fun x hx => by cases hx; exact going e executing
      · split
        · rfl
        · simp
      · rfl

/-- The requests of a change cue's action, with their targets from position `p` and from an unknown one (R19, R30, R48). -/
theorem targets_of_request (plan : Plan) (size p : Nat) :
    targetOf size p (requestOf plan) = (match plan.action with
      | .changeRev => (p + size) % (size + 1)
      | .goto => min plan.slot size
      | _ => (p + 1) % (size + 1)) ∧
    homingTarget size (requestOf plan) = (if plan.action = .goto then min plan.slot size else 1) := by
  cases action : plan.action <;> simp [requestOf, action, targetOf, homingTarget]

/-- A cue that awaits its ramp in FADING_OUT asks for its change (R19, R23). -/
theorem engineRampDone_fadingOut {s : State} {e : Executing} (executing : s.engine.cue = some e) (awaits : e.awaiting = true)
    (phase : e.phase = .fadingOut) : engineRampDone s = changeRequest (requestOf e.plan) { s with engine := { s.engine with
      cue := some { e with phase := .changing, awaiting := false, cycle := true } } } := by
  simp [engineRampDone, executing, awaits, phase, enterChanging]

theorem engineRampDone_fadingIn {s : State} {e : Executing} (executing : s.engine.cue = some e) (awaits : e.awaiting = true)
    (phase : e.phase = .fadingIn) : engineRampDone s =
      if e.cycle then { s with engine := { s.engine with cue := some { e with awaiting := false } } }
      else completeCue { e with awaiting := false } s := by
  simp [engineRampDone, executing, awaits, phase]

theorem engineRampDone_unawaited {s : State} {e : Executing} (executing : s.engine.cue = some e) (awaits : e.awaiting = false) :
    engineRampDone s = s := by
  simp [engineRampDone, executing, awaits]

/-- Without power, or without a tray that can move, a change request is refused as an abort (R30, R25). -/
theorem changeRequest_refused {r : ChangeRequest} {s : State}
    (h : s.transport.state = .jammed ∨ s.transport.state = .noTray ∨
      ((s.transport.state = .ready ∨ s.transport.state = .unhomed) ∧ (s.power.state = .standby ∨ s.power.state = .runup))) :
    changeRequest r s = abortCycle s := by
  have answer : changeAnswer s = .aborted := by
    rcases h with h | h | ⟨h | h, p | p⟩
    · simp [changeAnswer, h]
    · simp [changeAnswer, h]
    · simp [changeAnswer, h, p]
    · simp [changeAnswer, h, p]
    · simp [changeAnswer, h, p]
    · simp [changeAnswer, h, p]
  simp [changeRequest, answer]

theorem changeRequest_ready {r : ChangeRequest} {s : State} (ready : s.transport.state = .ready)
    (powered : s.power.state = .on ∨ s.power.state = .shutdown) : changeRequest r s = startChange r s := by
  simp [changeRequest, changeAnswer, ready, powered]

theorem changeRequest_unhomed {r : ChangeRequest} {s : State} (unhomed : s.transport.state = .unhomed)
    (powered : s.power.state = .on ∨ s.power.state = .shutdown) : changeRequest r s = startHoming r s := by
  simp [changeRequest, changeAnswer, unhomed, powered]

/-- A cue completes with CUE_RUN, and nothing but the engine and the log changes (R24). -/
theorem completeCue_spec (e : Executing) (s : State) :
    completeCue e s = { s with engine := { s.engine with cue := none }, log := (completeCue e s).log } ∧
      (completeCue e s).log.next = s.log.next + 1 ∧
      (completeCue e s).log.ring.getLast? =
        some { sequence := s.log.next, kind := .cueRun, source := .cue e.source, time := s.clock.showClock,
               cueNo := e.plan.cueNo, slot := slotByte s.transport.slotInGate, detail1 := toWord (gateLatency e),
               detail2 := toWord e.source.code } := by
  obtain ⟨same, next, last⟩ := postGate_spec .cueRun (.cue e.source) e.plan.cueNo (gateLatency e) e.source.code s
  refine ⟨?_, next, last⟩
  show noExecuting (postGate .cueRun (.cue e.source) e.plan.cueNo (gateLatency e) e.source.code s) = _
  rw [same]
  rfl

/-- A change starts from READY: the tray is to go the shorter way to the target (R30, R31, R37, R40). -/
theorem startChange_spec {r : ChangeRequest} {s : State} {tab : CamTable} {p : Nat} (position : s.transport.position = some p)
    (count : s.transport.stepCount = some (64 * p)) (within : p ≤ traySize s.path.settings)
    (table : tab = (if tableValid (camTableOf s.path.settings) then camTableOf s.path.settings else builtInTable))
    (unseated : ¬ (tableActive tab .liftCheck 0 = true ∧ s.transport.gate = .seated)) :
    startChange r s = { s with transport := (startChange r s).transport, log := (startChange r s).log } ∧
      (startChange r s).transport.state = .cycling ∧ (startChange r s).transport.phase = .lift ∧
      (startChange r s).transport.size = traySize s.path.settings ∧
      (startChange r s).transport.target = targetOf (traySize s.path.settings) p r ∧
      (startChange r s).transport.table = some tab ∧ (startChange r s).transport.camRunning = true ∧
      (tableValid (camTableOf s.path.settings) = false → flagOn (startChange r s) .camDefault = true) ∧
      ∃ v, (startChange r s).transport.move = some v ∧ v.search = false ∧ (v.dir, v.remaining) =
        (let df := ((startChange r s).transport.target + (traySize s.path.settings + 1) - p) % (traySize s.path.settings + 1)
         if df ≤ traySize s.path.settings + 1 - df then (.forward, 64 * df)
         else (.reverse, 64 * (traySize s.path.settings + 1 - df))) := by
  have at_ : s.transport.position.getD 0 = p := by rw [position]; rfl
  have depends : ∀ t t' : Transport, t.size = t'.size → t.target = t'.target → t.stepCount = t'.stepCount →
      preparedMove t = preparedMove t' := by
    intro t t' size target count
    simp [preparedMove, turnSteps, size, target, count]
  unfold startChange
  rw [at_]
  obtain ⟨same, state, phase, size, target, latched, running, flag, v, move, search, dir, left, -⟩ :=
    startNormal_spec preparedMove depends tab (enterCycling (targetOf (traySize s.path.settings) p r) s) table unseated
  refine ⟨same, state, phase, size, target, latched, running, flag, v, move, search, ?_⟩
  rw [dir, left, target]
  have way := shortestPath_positions (traySize s.path.settings) p (targetOf (traySize s.path.settings) p r) within
  simpa [preparedMove, turnSteps, count] using way

/-- A homing cycle starts: in CAM_HOME unless the cam is at its index, from where the search starts at once (R48). -/
theorem startHoming_spec {r : ChangeRequest} {s : State} {tab : CamTable}
    (table : tab = (if tableValid (camTableOf s.path.settings) then camTableOf s.path.settings else builtInTable))
    (unseated : ¬ (tableActive tab .liftCheck 0 = true ∧ s.transport.gate = .seated)) :
    startHoming r s = { s with transport := (startHoming r s).transport, log := (startHoming r s).log } ∧
      (startHoming r s).transport.state = .cycling ∧
      (startHoming r s).transport.size = traySize s.path.settings ∧
      (startHoming r s).transport.target = homingTarget (traySize s.path.settings) r ∧
      (startHoming r s).transport.camRunning = true ∧
      (s.transport.camAngle = some 0 → (startHoming r s).transport.phase = .lift ∧
        (startHoming r s).transport.table = some tab ∧
        ∃ v, (startHoming r s).transport.move = some v ∧ v.search = true ∧ v.dir = .forward ∧ v.searched = 0) ∧
      (s.transport.camAngle ≠ some 0 → (startHoming r s).transport.phase = .camHome ∧
        shutterOn (startHoming r s).transport = true) := by
  have depends : ∀ t t' : Transport, t.size = t'.size → t.target = t'.target → t.stepCount = t'.stepCount →
      searchMove t = searchMove t' := by
    intro t t' _ target _
    simp [searchMove, target]
  by_cases home : s.transport.camAngle = some 0
  · have started : startHoming r s = startNormal searchMove (enterCycling (homingTarget (traySize s.path.settings) r) s) :=
      if_pos home
    obtain ⟨same, state, phase, size, target, latched, running, -, v, move, search, dir, -, searched⟩ :=
      startNormal_spec searchMove depends tab (enterCycling (homingTarget (traySize s.path.settings) r) s) table unseated
    rw [started]
    exact ⟨same, state, size, target, running, fun _ => ⟨phase, latched, v, move, search, dir, searched⟩,
      fun away => absurd home away⟩
  · obtain ⟨u, hu⟩ : ∃ u : State, u = startRevolution { enterCycling (homingTarget (traySize s.path.settings) r) s with
        transport := { (enterCycling (homingTarget (traySize s.path.settings) r) s).transport with
          phase := .camHome, table := none } } := ⟨_, rfl⟩
    have started : startHoming r s = focusGuard u := hu ▸ if_neg home
    rw [started, focusGuard_eq]
    refine ⟨by rw [hu]; rfl, by rw [hu]; rfl, by rw [hu]; rfl, by rw [hu]; rfl, by rw [hu]; rfl, fun at_ => absurd at_ home,
      fun _ => ⟨by rw [hu]; rfl, by simp [shutterOn, hu]⟩⟩

/-- Settles O18. -/
theorem darkPeriodsAndRampEnds : Obligations.DarkPeriodsAndRampEnds := by
  refine ⟨fun vs im s still dark supplied => ?_, fun vs im s active running => ⟨fun dark supplied => ?_, fun lit on => ?_⟩,
    fun s active ends free => ?_, fun s active ends off lit marked powered => ?_,
    fun e tab s active ends engine executing going table => ?_⟩
  · refine congrArg Host.Outcome.next ?_
    rw [rampStage_of_still (by exact still), darkPeriod _ _ (by exact dark) (by exact supplied)]
    simp [restartLampPeriod, startTimer, lampPeriodUs]
  · refine congrArg Host.Outcome.next ?_
    rw [rampStage_running (by exact active) (by exact running), darkPeriod _ _ (by exact dark) (by exact supplied)]
    simp [restartLampPeriod, startTimer, lampPeriodUs, lerp]
    rfl
  · refine ⟨_, rfl, ?_⟩
    rw [runupReading_lamp]
    simp only [handDuty, countUsage]
    rw [(dutyStage_ramp _ _).1, (dutyStage_ramp _ _).2, rampStage_running (by exact active) (by exact running)]
    have powered : s.power.state ≠ .standby := by simp [on]
    rw [(currentTest_ramp _ (by exact powered)).1, (currentTest_ramp _ (by exact powered)).2]
    exact ⟨rfl, rfl⟩
  · refine (execLampRampDone_of_end active ends).trans (congrArg Host.Outcome.next ?_)
    rw [rampDone_eq, free]
    rfl
  · refine ⟨_, execLampRampDone_of_end active ends, ?_⟩
    rw [rampDone_eq, off]
    have out : offRampDone (rampEnded s) = leaveLit .off { rampEnded s with lamp := { (rampEnded s).lamp with
        goingOff := none } } := if_pos ⟨lit, marked⟩
    simp only [out]
    rw [leaveLit_lamp_eq _ (by exact powered)]
    exact ⟨rfl, rfl, rfl, rfl, rfl⟩
  · have cue : (rampEnded s).engine.cue = some e := executing
    refine ⟨engineRampDone (rampEnded s), (execLampRampDone_of_end active ends).trans
      (by rw [rampDone_eq, engine]), engineRampDone_lamp (by rw [cue]; simp [going]), fun idle => ?_,
      fun awaits phase cycle => ?_, fun awaits phase cycle => ?_, fun awaits phase => ?_⟩
    · rw [engineRampDone_unawaited cue idle]
      rfl
    · rw [engineRampDone_fadingIn cue awaits phase, if_pos cycle]
      rfl
    · rw [engineRampDone_fadingIn cue awaits phase, if_neg (by simp [cycle])]
      obtain ⟨same, next, last⟩ := completeCue_spec { e with awaiting := false } (rampEnded s)
      refine ⟨by rw [same]; rfl, next, last.trans ?_⟩
      cases seat : e.seat <;> simp [gateLatency, rampEnded, toWord]
    · rw [engineRampDone_fadingOut cue awaits phase]
      obtain ⟨u, hu⟩ : ∃ u : State, u = { rampEnded s with engine := { (rampEnded s).engine with
          cue := some { e with phase := .changing, awaiting := false, cycle := true } } } := ⟨_, rfl⟩
      have transport : u.transport = s.transport := by rw [hu]; rfl
      have settings : u.path = s.path := by rw [hu]; rfl
      have asks : u.power = s.power := by rw [hu]; rfl
      have run : u.engine.runState = s.engine.runState := by rw [hu]; rfl
      have own : u.engine.cue.filter (fun e => !e.cycle) = none := by rw [hu]; rfl
      rw [← hu]
      refine ⟨fun refused => ?_, fun powered unseated => ⟨fun p ready position count within => ?_, fun unhomed => ?_⟩⟩
      · rw [changeRequest_refused (by rwa [transport, asks]), abortCycle_engine_eq]
        refine ⟨by simp [transport], own, rfl, ?_⟩
        rw [← run]
        cases u.engine.runState <;> rfl
      · rw [changeRequest_ready (by rwa [transport]) (by rwa [asks])]
        obtain ⟨same, h⟩ := startChange_spec (r := requestOf e.plan) (s := u) (tab := tab) (by rwa [transport]) (by rwa [transport])
          (by rwa [settings]) (by rwa [settings]) (by rwa [transport])
        rw [settings, (targets_of_request e.plan _ p).1] at h
        refine ⟨by rw [same, hu]; rfl, by rw [same, hu]; rfl, h⟩
      · rw [changeRequest_unhomed (by rwa [transport]) (by rwa [asks])]
        obtain ⟨same, h⟩ := startHoming_spec (r := requestOf e.plan) (s := u) (tab := tab) (by rwa [settings]) (by rwa [transport])
        rw [settings, transport, (targets_of_request e.plan _ 0).2] at h
        exact ⟨by rw [same, hu]; rfl, by rw [same, hu]; rfl, h⟩

/-! ### The duty of a driven period (R67 to R73) -/

/-- The current test of a lamp whose current is within bounds (R73, R74). -/
theorem currentTest_passed {s : State} {im : Nat} (below : im ≤ currentMax s.path.settings)
    (above : s.lamp.duty < 256 ∨ currentMin s.path.settings ≤ im) :
    currentTest im s = { s with lamp := { s.lamp with openCount := 0 } } := by
  have closed : ¬ (256 ≤ s.lamp.duty ∧ im < currentMin s.path.settings) := by omega
  simp [currentTest, Nat.not_lt.mpr below, closed]

/-- The duty of a driven lamp at a supply that is not low (R67 to R72). -/
theorem dutyStage_driven {s : State} {vs : Nat} (driven : mayDrive s = true) (supplied : supplyLow s.path.settings vs = false) :
    dutyStage vs s = { s with lamp := { s.lamp with 
      lowCount := 0
      duty := slewed s.path.settings (compensated s.path.settings (stagedPower s) vs) s.lamp.duty } } := by
  simp [dutyStage, driven, countLowSupply, supplied]

/-- Stages 2 to 4 of a level's power, written out (R68, R69, R70). -/
theorem stagedPower_eq (s : State) : stagedPower s =
    (let b := s.path.settings
     let p := if s.lamp.level / 64 < 16 then
         curveAt b (s.lamp.level / 64) +
           (curveAt b (s.lamp.level / 64 + 1) - curveAt b (s.lamp.level / 64)) * (s.lamp.level % 64) / 64
       else curveAt b 16
     let pe := if s.handset.economy then p * economyFactor b / 16 else p
     let blank := optBlank b = true ∧ (s.transport.gate = .empty ∨ s.transport.state = .jammed)
     let floored := max (keepAlive b) (if blank then 0 else pe)
     if s.power.band = .warm then min (derateCap b) floored else floored) := by
  have curve : curvePower s.path.settings s.lamp.level = if s.lamp.level / 64 < 16 then
      curveAt s.path.settings (s.lamp.level / 64) + (curveAt s.path.settings (s.lamp.level / 64 + 1) -
        curveAt s.path.settings (s.lamp.level / 64)) * (s.lamp.level % 64) / 64
      else curveAt s.path.settings 16 := by
    unfold curvePower
    by_cases h : s.lamp.level / 64 < 16
    · simp [h, Nat.not_le.mpr h]
    · simp [h, Nat.not_lt.mp h]
  have economy (p : Nat) : economyPower s.path.settings s.handset.economy p =
      if s.handset.economy then p * economyFactor s.path.settings / 16 else p := by
    unfold economyPower
    cases s.handset.economy <;> simp
  have blank : (blanked s = true) = (optBlank s.path.settings = true ∧
      (s.transport.gate = .empty ∨ s.transport.state = .jammed)) := by simp [blanked]
  unfold stagedPower cappedPower
  simp only [curve, economy, blank, Nat.max_comm, Nat.min_comm]

/-- Settles O19. -/
theorem drivenLampPeriodDuty : Obligations.DrivenLampPeriodDuty := by
  intro vs im s still lit on cool fan below above supplied
  have low : supplyLow s.path.settings vs.toNat = false := by
    simp only [supplyLow, decide_eq_false_iff_not]
    omega
  obtain ⟨u, hu⟩ : ∃ u : State, u = { restartLampPeriod s with lamp := { s.lamp with openCount := 0 } } := ⟨_, rfl⟩
  have driven : mayDrive u = true := by simp [hu, mayDrive, mainsOn, lit, on, cool, fan]
  have staged : stagedPower u = stagedPower s := by rw [hu]; rfl
  have tested : currentTest im.toNat (rampStage (restartLampPeriod s)) = u := by
    rw [rampStage_of_still (by exact still), currentTest_passed (by exact below) (by exact above), hu]
    rfl
  have ran : execLampPeriod vs im s = .next (handDuty (countUsage (dutyStage vs.toNat u))) := by
    refine congrArg Host.Outcome.next ?_
    rw [tested, runupReading_of_not_runup]
    rw [dutyStage_driven driven (by rw [hu]; exact low)]
    simp [handDuty, countUsage, hu, on]
  rw [dutyStage_driven driven (by rw [hu]; exact low), staged, stagedPower_eq] at ran
  refine ⟨_, ran, ?_, by simp [handDuty, hu, lit], by simp [handDuty, hu], by simp [handDuty, hu], by simp [handDuty, hu],
    by simp [handDuty, hu]⟩
  simp [handDuty, hu, slewed, compensated, low]

/-! ### The carriage (R58, R59, R76, R77) -/

/-- With the motor at rest the active socket follows the switches while they report one position (R58). -/
theorem followCarriage_setSwitches (p q : Bool) (s : State) :
    followCarriage (setSwitches p q s) = { s with lamp := { s.lamp with
      endPrimary := p, endSpare := q
      active := if p && !q then .primary else if q && !p then .spare else s.lamp.active } } := by
  cases p <;> cases q <;> rfl

/-- The carriage position moves no lamp state, and nothing but the lamp (R58). -/
theorem followCarriage_eq (s : State) :
    followCarriage s = { s with lamp := { s.lamp with active := (followCarriage s).lamp.active } } := by
  unfold followCarriage
  split <;> rfl

/-- Settles O20. -/
theorem carriageArrivesOrFaults : Obligations.CarriageArrivesOrFaults := by
  refine ⟨⟨fun p q s out => ?_, fun s swapping own marked => ?_, fun s still => ?_⟩, fun s swapping => ?_⟩
  · refine congrArg Host.Outcome.next ?_
    rw [← followCarriage_setSwitches]
    rcases out with out | out
    · simp [out]
    · simp [out]
  · refine congrArg Host.Outcome.next ?_
    simp [swapping, carriageArrived, setSwitches, own, marked]
  · exact congrArg Host.Outcome.next (if_neg still)
  · refine ⟨_, congrArg Host.Outcome.next (if_pos swapping), ?_⟩
    obtain ⟨u, hu⟩ : ∃ u : State, u = setFlag .carriage (postNoLamp 3 s.lamp.active.code
        { s with lamp := { s.lamp with failureSwap := false } }) := ⟨_, rfl⟩
    have lamp : u.lamp = { s.lamp with failureSwap := false } := by simp [hu, postNoLamp]
    have carriage : flagOn u .carriage = true := hu ▸ flagOn_setFlag_self _ _
    have noLamp : flagOn u .noLamp = true := by
      rw [hu, setFlag_flagOn, postNoLamp, flagOn_setFlag_self]
      rfl
    have outlasts {f : FaultFlag} (h : flagOn u f = true) : flagOn (enterFault u) f = true :=
      (testShutdown_keeps (.refl [] _)).flags f h
    rw [← hu, followCarriage_eq]
    refine ⟨by simp [enterFault], by simp [enterFault], by simp [enterFault], by simp [enterFault], outlasts noLamp,
      outlasts carriage, by simp [enterFault, lamp], by simp [enterFault, lamp], by simp [enterFault, lamp]⟩

/-! ### The supply and the usage counts (R71, R81) -/

theorem usageSecond_eq (u : Usage) : usageSecond u = { u with
    seconds := if u.seconds < 59 then u.seconds + 1 else 0
    minutes := if u.seconds < 59 then u.minutes else min 4294967295 (u.minutes + 1) } := by
  unfold usageSecond satInc
  by_cases h : u.seconds < 59
  · simp [h, show ¬ 60 ≤ u.seconds + 1 by omega]
  · simp [h, show 60 ≤ u.seconds + 1 by omega]

/-- Settles O21. -/
theorem supplyAndUsageCounts : Obligations.SupplyAndUsageCounts := by
  refine ⟨fun vs s low room => ?_, fun s driven active => ?_, fun s driven active => ?_, fun s dark => ?_⟩
  · refine congrArg Host.Outcome.next ?_
    simp [low, postLowSupply, postGate, post, room, setFlag, noCue, FaultFlag.mask, FaultFlag.bit]
  · simp [exec, execUsageTick, driven, burnSecond, active, usageSecond_eq, startTimer, oneSecond]
  · simp [exec, execUsageTick, driven, burnSecond, active, usageSecond_eq, startTimer, oneSecond]
  · simp [exec, execUsageTick, dark, startTimer, oneSecond]

end Sys2Proof.Machine
end

section
/-! PROOFS. The cooling and power unit: the power key, run-up and shutdown, the cooling period, failures and the fan watch. -/

namespace Sys2Proof.Machine

set_option Elab.async false

/-! ### A change of the power state (R85, R87, R91, R96) -/

theorem setPower_fan (st : PowerState) (cause : Nat) (s : State) :
    (st = .standby → (setPower st cause s).power.fanDuty = 0) ∧
      (st = .runup → (setPower st cause s).power.fanDuty = fanMax s.path.settings) := by
  cases st <;> simp [setPower, enterPower]
  split <;> simp

theorem setFan_runup (f : Nat) (s : State) :
    (setFan f s).power.runupTimer = s.power.runupTimer ∧ (setFan f s).power.runupCount = s.power.runupCount := by
  unfold setFan
  split
  · exact ⟨rfl, rfl⟩
  · split <;> exact ⟨rfl, rfl⟩

theorem setPower_runup (cause : Nat) (s : State) :
    (setPower .runup cause s).power.runupCount = 0 ∧
      (setPower .runup cause s).power.runupTimer = some (s.clock.now + 2000000) := by
  simp only [setPower, enterPower, setFan_runup]
  split <;> simp [startTimer, twoSeconds]

/-- As RUNUP is left the run-up timer stops (R87). -/
theorem setPower_timer {st : PowerState} (cause : Nat) (s : State) (left : st ≠ .runup) :
    (setPower st cause s).power.runupTimer = none := by
  cases st <;> simp only [setPower, enterPower] <;> (repeat' split) <;> simp_all [setFan_runup]

/-- Only ON is left with the focus motor to stop (R54). -/
theorem setPower_transport_of_not_on {st : PowerState} (cause : Nat) {s : State} (off : s.power.state ≠ .on) :
    (setPower st cause s).transport = s.transport := by
  simp [setPower, off]

theorem mainsOn_setPower (st : PowerState) (cause : Nat) (s : State) :
    mainsOn (setPower st cause s) = decide (st ≠ .standby) := by
  simp [mainsOn, setPower_power]

/-- R91's test, met. -/
theorem testShutdown_met {s : State} (shutdown : s.power.state = .shutdown)
    (out : s.lamp.state = .off ∨ s.lamp.state = .fault) (still : s.transport.state ≠ .cycling) (paid : s.power.owed = false) :
    testShutdown s = setPower .standby 5 s := by
  simp [testShutdown, shutdownReady, lampOut, shutdown, out, still, paid]

/-- R91's test, with one of its three conditions wanting. -/
theorem testShutdown_wanting {s : State}
    (wanting : s.lamp.state = .lit ∨ s.lamp.state = .swapping ∨ s.transport.state = .cycling ∨ s.power.owed = true) :
    testShutdown s = s := by
  have unready : shutdownReady s = false := by
    rcases wanting with h | h | h | h <;> simp [shutdownReady, lampOut, h]
  simp [testShutdown, unready]

/-! ### Turning off with a lamp that is LIT or SWAPPING (R61, R89) -/

/-- What a cue that hears of its ramp leaves alone while the lamp is LIT or SWAPPING: the power unit, and a show that is stopped with its
queue empty. -/
structure HeardLit (s t : State) : Prop where
  power : t.power = s.power
  queue : s.engine.queue = [] → t.engine.queue = []
  run : s.engine.runState = .stopped → t.engine.runState = .stopped

theorem abortCycle_lampState (s : State) : (abortCycle s).lamp.state = s.lamp.state := by
  unfold abortCycle
  dsimp only
  (repeat' split) <;> simp [finishStopping, apply_ite]

theorem jam_heardLit (c : JamCause) {s : State} (lit : s.lamp.state = .lit ∨ s.lamp.state = .swapping) : HeardLit s (jam c s) := by
  have awake : (jam c s).power = s.power := by
    unfold jam
    dsimp only
    rw [testShutdown_wanting ?_]
    · simp
    · rw [abortCycle_lampState]
      rcases lit with h | h <;> simp [h]
  exact ⟨awake, fun _ => by rw [jam_engine], fun h => by rw [jam_engine, h]; rfl⟩

theorem startNormal_heardLit (v : Transport → Move) {s : State} (lit : s.lamp.state = .lit ∨ s.lamp.state = .swapping) :
    HeardLit s (startNormal v s) := by
  obtain ⟨u, engine, lamp, power, started | jammed⟩ := startNormal_cases v s
  · rw [started]
    exact ⟨power, fun h => by rw [engine, h], fun h => by rw [engine, h]⟩
  · have heard := jam_heardLit .lift (s := u) (by rw [lamp]; exact lit)
    rw [jammed]
    exact ⟨heard.power.trans power, fun h => heard.queue (by rw [engine, h]), fun h => heard.run (by rw [engine, h])⟩

theorem changeRequest_heardLit (r : ChangeRequest) {s : State} (lit : s.lamp.state = .lit ∨ s.lamp.state = .swapping) :
    HeardLit s (changeRequest r s) := by
  have cycling (target : Nat) : HeardLit s (startNormal preparedMove (enterCycling target s)) :=
    have h := startNormal_heardLit preparedMove (s := enterCycling target s) lit
    ⟨h.power, h.queue, h.run⟩
  have homing (target : Nat) : HeardLit s (startNormal searchMove (enterCycling target s)) :=
    have h := startNormal_heardLit searchMove (s := enterCycling target s) lit
    ⟨h.power, h.queue, h.run⟩
  unfold changeRequest
  split
  · exact cycling _
  · unfold startHoming
    dsimp only
    split
    · exact homing _
    · exact ⟨by simp [enterCycling], by simp [enterCycling], by simp [enterCycling]⟩
  · exact ⟨rfl, id, id⟩
  · exact ⟨by simp, fun _ => by rw [abortCycle_engine_eq], fun h => by rw [abortCycle_engine_eq, h]; rfl⟩

theorem engineRampDone_heardLit {s : State} (lit : s.lamp.state = .lit ∨ s.lamp.state = .swapping) : HeardLit s (engineRampDone s) := by
  unfold engineRampDone
  split
  · exact ⟨rfl, id, id⟩
  · dsimp only
    split
    · exact ⟨rfl, id, id⟩
    · split
      · rename_i e _ _ _ _
        have h := changeRequest_heardLit (requestOf e.plan) (s := { s with engine := { s.engine with
          cue := some { e with phase := .changing, awaiting := false, cycle := true } } }) lit
        exact ⟨h.power, h.queue, h.run⟩
      · split
        · exact ⟨rfl, id, id⟩
        · exact ⟨by simp, by simp, by simp⟩
      · exact ⟨rfl, id, id⟩

/-- An off request of a lamp that is LIT or SWAPPING fades it to 0 over the time given, marked going off (R61). -/
theorem offRequest_lit (who : OffRequest) (t : Nat) {s : State} (lit : s.lamp.state = .lit ∨ s.lamp.state = .swapping) :
    (offRequest who t s).lamp.state = s.lamp.state ∧ (offRequest who t s).lamp.goingOff = some who ∧
      (offRequest who t s).lamp.ramp.l1 = 0 ∧ (offRequest who t s).lamp.ramp.n = t ∧ HeardLit s (offRequest who t s) := by
  obtain ⟨u, hu⟩ : ∃ u : State, u = { setRamp 0 t .off s with lamp := { (setRamp 0 t .off s).lamp with goingOff := some who } } :=
    ⟨_, rfl⟩
  have state : u.lamp.state = s.lamp.state := by rw [hu]; rfl
  have target : u.lamp.ramp.l1 = 0 := by simp [hu]
  have plain : HeardLit s u := hu ▸ ⟨rfl, id, id⟩
  have asked : offRequest who t s = u ∨ offRequest who t s = engineRampDone u := by
    unfold offRequest
    rw [if_pos lit, hu]
    dsimp only
    split
    · exact .inr rfl
    · exact .inl rfl
  have lamp : (offRequest who t s).lamp = u.lamp := by
    rcases asked with e | e
    · rw [e]
    · rw [e, engineRampDone_lamp fun _ _ _ => target]
  have heard : HeardLit s (offRequest who t s) := by
    rcases asked with e | e
    · rwa [e]
    · rw [e]
      have h := engineRampDone_heardLit (s := u) (by rw [state]; exact lit)
      exact ⟨h.power.trans plain.power, fun x => h.queue (plain.queue x), fun x => h.run (plain.run x)⟩
  rw [lamp]
  exact ⟨state, by rw [hu], target, by simp [hu], heard⟩

theorem offRequest_out (who : OffRequest) (t : Nat) {s : State} (out : s.lamp.state = .off ∨ s.lamp.state = .fault) :
    offRequest who t s = s := by
  rcases out with h | h <;> simp [offRequest, h]

/-! ### The power key (R86) -/

/-- Settles O23. -/
theorem powerKeyByState : Obligations.PowerKeyByState := by
  intro s
  refine ⟨_, rfl, fun standby => ?_, fun runup paid => ?_, fun on lit => ?_, fun on out still paid => ?_, fun shutdown => ?_⟩
  · obtain ⟨count, timer⟩ := setPower_runup 1 s
    simp only [powerKeyPressed, standby]
    exact ⟨(setPower_power _ _ _).1, mainsOn_setPower _ _ _, count, timer, (setPower_fan _ _ _).2 rfl⟩
  · simp only [powerKeyPressed, runup, leaveRunup, paid, Bool.false_eq_true, if_false]
    exact ⟨(setPower_power _ _ _).1, mainsOn_setPower _ _ _, (setPower_fan _ _ _).1 rfl⟩
  · simp only [powerKeyPressed, on, shutdownFromOn]
    obtain ⟨state, marked, target, time, heard⟩ := offRequest_lit .power (powerFade s.path.settings)
      (s := requestStop (setPower .shutdown 1 s)) (by simp [lit])
    rw [testShutdown_wanting (.inl (by simp [state, lit]))]
    refine ⟨?_, heard.run (requestStop_engine _).1, heard.queue (requestStop_engine _).2.1, marked, target, time⟩
    rw [heard.power]
    simp [setPower_power]
  · simp only [powerKeyPressed, on, shutdownFromOn]
    rw [offRequest_out _ _ (by simpa using out), testShutdown_met]
    · exact (setPower_power _ _ _).1
    · simp [setPower_power]
    · simpa using out
    · rcases setPower_transport_cases .shutdown 1 s with e | e <;> simpa [e] using still
    · simp [setPower_power, paid]
  · simp only [powerKeyPressed, shutdown, returnToOn]
    exact ⟨(setPower_power .on 1 s).1, trivial, trivial, by simp⟩

/-! ### Run-up and shutdown (R87, R88, R91) -/

/-- Settles O24. -/
theorem runupAndShutdownEnd : Obligations.RunupAndShutdownEnd := by
  refine ⟨⟨fun s runup tenth => ?_, fun s runup paid => ?_⟩, fun s shutdown => ⟨fun out still paid => ?_, fun wanting => ?_⟩⟩
  · refine ⟨_, congrArg Host.Outcome.next (if_pos ⟨runup, tenth⟩), (setPower_power _ _ _).1, setPower_timer _ _ nofun,
      mainsOn_setPower _ _ _, by simp [supplyGood], by simp [supplyGood], ?_⟩
    exact setPower_transport_of_not_on _ (by simp [runup])
  · refine ⟨_, congrArg Host.Outcome.next (if_pos runup), ?_⟩
    have given : leaveRunup 4 s = setPower .standby 4 s := by simp [leaveRunup, paid]
    rw [given]
    refine ⟨by simp [setPower_power], by simp [mainsOn, setPower_power], by simp [setPower_fan],
      by simp [setPower_timer], flagOn_setFlag_self _ _, by simp, by simp⟩
  · refine ⟨_, congrArg Host.Outcome.next (testShutdown_met shutdown out still paid), (setPower_power _ _ _).1,
      mainsOn_setPower _ _ _, (setPower_fan _ _ _).1 rfl⟩
  · exact congrArg Host.Outcome.next (testShutdown_wanting wanting)

/-! ### The cooling period (R92 to R96) -/

/-- Both temperatures released from every threshold: the band is NORMAL, whatever it was (R93). -/
theorem bandOf_released {b : Bytes} {old : Band} {gate house : Nat} (g : gate + 3 ≤ gateWarm b) (h : house + 3 ≤ houseHot b) :
    bandOf b old gate house = .normal := by
  have above : gateWarm b + 1 ≤ gateHot b := (clamp_bounds (by unfold gateWarm clamp; omega) _).1
  have hot : ¬ (gateHot b ≤ gate ∨ houseHot b ≤ house) := by omega
  have held : ¬ (gateHot b - 3 < gate ∨ houseHot b - 3 < house) := by omega
  have warm : ¬ gateWarm b ≤ gate := by omega
  have kept : ¬ gateWarm b - 3 < gate := by omega
  simp [bandOf, hot, held, warm, kept]

theorem bandOf_hot {b : Bytes} {old : Band} {gate house : Nat} (h : gateHot b ≤ gate ∨ houseHot b ≤ house) :
    bandOf b old gate house = .hot := if_pos h

/-- A running fan given a duty above 0 keeps its watch (R97). -/
theorem setFan_running {f : Nat} {s : State} (driven : 0 < f) (running : s.power.fanWatch ≠ .off) :
    setFan f s = { s with power := { s.power with fanDuty := f } } := by
  simp [setFan, Nat.pos_iff_ne_zero.mp driven, running]

/-- The cooldown test and the fan reach no engine, and leave the band (R96, R100). -/
theorem coolingEnds (s : State) : (applyFan (testCooldown s)).power.band = s.power.band ∧
    (applyFan (testCooldown s)).engine = s.engine := by
  have band : (testCooldown s).power.band = s.power.band := by
    unfold testCooldown
    dsimp only
    split
    · rfl
    · split
      · rcases testShutdown_cases { s with power := { s.power with owed := false, cooldown := 0 } } with ⟨-, e⟩ | ⟨-, e⟩
        · rw [e]
        · rw [e, (setPower_power _ _ _).2.2.2]
      · rfl
  exact ⟨by simp [applyFan, band], by simp⟩

theorem decideBand_hot {gate house : Nat} {s : State}
    (hot : gateHot s.path.settings ≤ gate ∨ houseHot s.path.settings ≤ house) :
    (decideBand gate house s).power.band = .hot ∧
      (s.power.band ≠ .hot → flagOn (decideBand gate house s) .thermalHot = true ∧
        (decideBand gate house s).engine.runState = heldState s.engine.runState) ∧
      (s.power.band = .hot → (decideBand gate house s).engine = s.engine) := by
  have band : bandOf s.path.settings s.power.band gate house = .hot := bandOf_hot hot
  by_cases already : s.power.band = .hot
  · have held : bandOf s.path.settings .hot gate house = .hot := already ▸ band
    simp [decideBand, held, already]
  · refine ⟨by simp [decideBand, band, already], fun _ => ⟨?_, by simp [decideBand, band, already, holdShow_engine]⟩,
      fun h => absurd h already⟩
    simp only [decideBand, band, ne_eq, already, not_false_eq_true, and_self, if_true]
    exact (holdShow_keeps (.refl [] _)).flags _ (flagOn_setFlag_self _ _)

/-- Settles O25. -/
theorem coolingPeriodBandAndFan : Obligations.CoolingPeriodBandAndFan := by
  refine ⟨fun gate house s paid on running cool mild least => ?_, fun gate house s hot => ?_⟩
  · refine congrArg Host.Outcome.next ?_
    have band : bandOf s.path.settings s.power.band (celsius gate.toNat) (celsius house.toNat) = .normal :=
      bandOf_released cool mild
    have decided : decideBand (celsius gate.toNat) (celsius house.toNat)
        { s with clock := { s.clock with coolingPeriod := startTimer coolingPeriodUs s } } = { s with
          clock := { s.clock with coolingPeriod := startTimer coolingPeriodUs s }
          power := { s.power with gateTemp := celsius gate.toNat, houseTemp := celsius house.toNat, band := .normal } } := by
      simp [decideBand, band]
    rw [decided]
    simp only [smoothPower, testCooldown, paid, Bool.not_false, if_true, applyFan]
    rw [setFan_running]
    · simp [fanDutyOf, on, startTimer, coolingPeriodUs, celsius]
    · simp [fanDutyOf, on]
      omega
    · exact running
  · refine ⟨_, rfl, ?_⟩
    obtain ⟨u, hu⟩ : ∃ u : State, u = { s with clock := { s.clock with coolingPeriod := startTimer coolingPeriodUs s } } :=
      ⟨_, rfl⟩
    obtain ⟨v, hv⟩ : ∃ v : State, v = smoothPower (decideBand (celsius gate.toNat) (celsius house.toNat) u) := ⟨_, rfl⟩
    obtain ⟨band, entered, stays⟩ := decideBand_hot (s := u) (gate := celsius gate.toNat) (house := celsius house.toNat)
      (by rw [hu]; exact hot)
    obtain ⟨kept, engine⟩ := coolingEnds v
    have ended : Keeps [] v (applyFan (testCooldown v)) := applyFan_keeps (testCooldown_keeps (.refl [] v))
    rw [← hu, ← hv, kept, engine]
    refine ⟨by rw [hv]; exact band, fun cooler => ?_, fun same => ?_⟩
    · obtain ⟨flag, run⟩ := entered (by rw [hu]; exact cooler)
      refine ⟨ended.flags _ (by rw [hv]; exact flag), ?_⟩
      rw [hv]
      simp only [smoothPower_frame, run]
      rw [hu]
      cases s.engine.runState <;> rfl
    · rw [hv]
      simpa [hu] using stays (by rw [hu]; exact same)

/-! ### The entries a chain of updates adds to the log (R202, R205) -/

/-- The last 64 of a list of entries (R202). -/
def lastEntries (es : List LogEntry) : List LogEntry := es.drop (es.length - 64)

/-- The log of `t` is that of `s` with the entries `new` added at its tail, numbered on (R202, R205). -/
structure Adds (new : List LogEntry) (s t : State) : Prop where
  next : t.log.next = s.log.next + BitVec.ofNat 16 new.length
  numbers : ∀ i e, new[i]? = some e → e.sequence = s.log.next + BitVec.ofNat 16 i
  ring : s.log.ring.length ≤ 64 → t.log.ring = lastEntries (s.log.ring ++ new)

/-- At most `n` entries were added to the log of `s`. -/
def Logs (n : Nat) (s t : State) : Prop := ∃ new, new.length ≤ n ∧ Adds new s t

theorem lastEntries_of_short {es : List LogEntry} (h : es.length ≤ 64) : lastEntries es = es := by
  simp [lastEntries, Nat.sub_eq_zero_of_le h]

theorem lastEntries_length (es : List LogEntry) : (lastEntries es).length ≤ 64 := by
  simp only [lastEntries, List.length_drop]
  omega

/-- What is dropped before more is added would be dropped after it. -/
theorem lastEntries_append (es fs : List LogEntry) : lastEntries (lastEntries es ++ fs) = lastEntries (es ++ fs) := by
  simp only [lastEntries, List.length_append, List.length_drop]
  rw [List.drop_append, List.drop_append, List.drop_drop, List.length_drop]
  congr 2 <;> omega

theorem Adds.of_same {s t : State} (same : t.log.next = s.log.next) (ring : t.log.ring = s.log.ring) : Adds [] s t :=
  ⟨by simp [same], by simp, fun h => by simp [ring, lastEntries_of_short h]⟩

theorem Adds.trans {new more : List LogEntry} {s t u : State} (h : Adds new s t) (k : Adds more t u) :
    Adds (new ++ more) s u where
  next := by rw [k.next, h.next, List.length_append, BitVec.ofNat_add, BitVec.add_assoc]
  numbers i e at_ := by
    rcases Nat.lt_or_ge i new.length with early | late
    · rw [List.getElem?_append_left early] at at_
      exact h.numbers i e at_
    · rw [List.getElem?_append_right late] at at_
      rw [k.numbers _ e at_, h.next, BitVec.add_assoc, ← BitVec.ofNat_add, Nat.add_sub_cancel' late]
  ring room := by
    have short : t.log.ring.length ≤ 64 := by rw [h.ring room]; exact lastEntries_length _
    rw [k.ring short, h.ring room, lastEntries_append, List.append_assoc]

/-- Posting adds the entry it makes (R202, R204). -/
theorem post_adds (k : LogKind) (src : LogSource) (cueNo : Word) (slot : Byte) (d1 d2 : Nat) (s : State) :
    Adds [{ sequence := s.log.next, kind := k, source := src, time := s.clock.showClock, cueNo := cueNo, slot := slot,
            detail1 := toWord d1, detail2 := toWord d2 }] s (post k src cueNo slot d1 d2 s) where
  next := by rw [post_log]; dsimp only; split <;> rfl
  numbers i e at_ := by
    cases i with
    | zero => simp only [List.getElem?_cons_zero, Option.some.injEq] at at_; simp [← at_]
    | succ i => simp at at_
  ring room := by
    rw [post_log]
    dsimp only
    split
    · rw [lastEntries_of_short]
      simp
      omega
    · simp only [lastEntries, List.length_append, List.length_singleton]
      rw [List.drop_append_of_le_length (by omega), show s.log.ring.length + 1 - 64 = s.log.ring.length - 63 by omega]

/-- The last entry of a log outlasts 63 more (R202). -/
theorem Adds.keeps_last {new : List LogEntry} {s t : State} (h : Adds new s t) (room : s.log.ring.length ≤ 64)
    (few : new.length ≤ 63) {e : LogEntry} (last : s.log.ring.getLast? = some e) : e ∈ t.log.ring := by
  obtain ⟨before, split⟩ := List.getLast?_eq_some_iff.mp last
  rw [h.ring room, split, lastEntries, List.append_assoc,
    List.drop_append_of_le_length (by simp only [List.length_append, List.length_singleton]; omega)]
  simp

theorem Logs.refl (n : Nat) (s : State) : Logs n s s := ⟨[], Nat.zero_le _, .of_same rfl rfl⟩

theorem Logs.trans {n m : Nat} {s t u : State} (h : Logs n s t) (k : Logs m t u) : Logs (n + m) s u := by
  obtain ⟨new, few, added⟩ := h
  obtain ⟨more, few', added'⟩ := k
  exact ⟨new ++ more, by rw [List.length_append]; omega, added.trans added'⟩

/-- What leaves the log alone adds nothing. -/
theorem Logs.same {n : Nat} {s t u : State} (h : Logs n s t) (log : u.log = t.log) : Logs n s u := by
  obtain ⟨new, few, added⟩ := h
  exact ⟨new, few, ⟨by rw [log, added.next], added.numbers, fun room => by rw [log, added.ring room]⟩⟩

theorem Logs.weaken {n m : Nat} {s t : State} (h : Logs n s t) (le : n ≤ m) : Logs m s t := by
  obtain ⟨new, few, added⟩ := h
  exact ⟨new, few.trans le, added⟩

theorem Logs.post {n : Nat} {s t : State} (h : Logs n s t) (k : LogKind) (src : LogSource) (cueNo : Word) (slot : Byte)
    (d1 d2 : Nat) : Logs (n + 1) s (post k src cueNo slot d1 d2 t) :=
  h.trans ⟨_, by simp, post_adds k src cueNo slot d1 d2 t⟩

theorem Logs.postGate {n : Nat} {s t : State} (h : Logs n s t) (k : LogKind) (src : LogSource) (cueNo : Word) (d1 d2 : Nat) :
    Logs (n + 1) s (postGate k src cueNo d1 d2 t) := h.post _ _ _ _ _ _

/-- Setting a flag makes no entry. -/
theorem Logs.setFlag {n : Nat} {s t : State} (h : Logs n s t) (f : FaultFlag) : Logs n s (setFlag f t) := by
  obtain ⟨new, few, added⟩ := h
  exact ⟨new, few, ⟨added.next, added.numbers, added.ring⟩⟩

theorem Logs.keeps_last {n : Nat} {s t : State} (h : Logs n s t) (room : s.log.ring.length ≤ 64) (few : n ≤ 63)
    {e : LogEntry} (last : s.log.ring.getLast? = some e) : e ∈ t.log.ring := by
  obtain ⟨new, short, added⟩ := h
  exact added.keeps_last room (short.trans few) last

theorem Logs.setPower {n : Nat} {s t : State} (h : Logs n s t) (st : PowerState) (cause : Nat) :
    Logs (n + 1) s (setPower st cause t) := (h.postGate _ _ _ _ _).same (setPower_log st cause t)

theorem Logs.testShutdown {n : Nat} {s t : State} (h : Logs n s t) : Logs (n + 1) s (testShutdown t) := by
  rcases testShutdown_cases t with ⟨-, e⟩ | ⟨-, e⟩
  · rw [e]; exact h.weaken (Nat.le_succ n)
  · rw [e]; exact h.setPower _ _

/-! ### A failed filament (R73, R75) -/

/-- With mains on, leaving LIT logs at most the end of a SHUTDOWN (R91, R99). -/
theorem leaveLit_logs (st : LampState) {s : State} (powered : s.power.state ≠ .standby) : Logs 1 s (leaveLit st s) := by
  refine Logs.testShutdown (n := 0) ?_
  unfold leftLit
  split
  · refine (Logs.refl 0 s).same ?_
    simp [oweCooldown, powered]
  · exact (Logs.refl 0 s).same rfl

/-- A STOP reaches nothing of the lamp but its ramp (R6, R61). -/
theorem requestStop_lamp_ramp (s : State) : ∃ r, (requestStop s).lamp = { s.lamp with ramp := r } := by
  have asked (n t : Nat) (u : State) : ∃ r, (engineRampUnowned n t u).lamp = { u.lamp with ramp := r } := by
    unfold engineRampUnowned
    split <;> exact ⟨_, rfl⟩
  have stopped (u : State) : ∃ r, (stopExecuting u).lamp = { u.lamp with ramp := r } := by
    unfold stopExecuting stopAgain
    split
    · exact ⟨_, rfl⟩
    · rename_i e _
      obtain ⟨r, faded⟩ := asked 0 (stopFade u.path.settings) (postExecutingDropped e e.phase.code u)
      obtain ⟨r', again⟩ := asked 0 (stopFade u.path.settings) u
      have logged : (postExecutingDropped e e.phase.code u).lamp = u.lamp := by simp
      rw [logged] at faded
      dsimp only
      split
      · split
        · exact ⟨r', again⟩
        · exact ⟨_, rfl⟩
      · split
        · exact ⟨_, logged⟩
        · exact ⟨r, faded⟩
        · exact ⟨_, logged⟩
        · split
          · exact ⟨r, faded⟩
          · exact ⟨r, faded⟩
  obtain ⟨r, e⟩ := stopped (fadeAudioOut (deckRequest .stop (clearQueue (setRunState .stopped s))))
  exact ⟨r, by simp only [requestStop, announce_frame, e]; simp [fadeAudioOut]⟩

/-- Leaving LIT reaches nothing of the lamp but its state, duty, open count and ramp (R62, R82). -/
theorem leaveLit_lamp_ramp (st : LampState) (s : State) : ∃ r, (leaveLit st s).lamp =
    { s.lamp with state := st, duty := 0, openCount := 0, ramp := r } := by
  obtain ⟨u, hu⟩ : ∃ u : State, u = { s with lamp := { s.lamp with state := st, duty := 0, openCount := 0 } } := ⟨_, rfl⟩
  have owed : ∃ r, (oweCooldown u).lamp = { u.lamp with ramp := r } := by
    unfold oweCooldown
    dsimp only
    split
    · obtain ⟨r, e⟩ := requestStop_lamp_ramp (setPower .shutdown 6 (setFan (fanMax u.path.settings)
        { u with power := { u.power with owed := true, cooldown := 0 } }))
      exact ⟨r, by rw [e]; simp⟩
    · exact ⟨u.lamp.ramp, by simp⟩
  have left : ∃ r, (leftLit u).lamp = { u.lamp with ramp := r } := by
    unfold leftLit
    split
    · exact owed
    · exact ⟨u.lamp.ramp, rfl⟩
  obtain ⟨r, e⟩ := left
  refine ⟨r, ?_⟩
  rw [leaveLit, ← hu, (testShutdown_frame _).2.2.2.2.1, e, hu]

theorem leaveLit_transportState (st : LampState) (s : State) : (leaveLit st s).transport.state = s.transport.state := by
  have changed (p : PowerState) (c : Nat) (u : State) : (setPower p c u).transport.state = u.transport.state := by
    rcases setPower_transport_cases p c u with e | e <;> simp [e]
  unfold leaveLit leftLit oweCooldown
  dsimp only
  split
  · split <;> simp [changed]
  · simp

/-- A set flag outlasts leaving LIT (R207). -/
theorem flagOn_leaveLit {st : LampState} {s : State} {f : FaultFlag} (h : flagOn s f = true) :
    flagOn (leaveLit st s) f = true := (testShutdown_keeps (leftLit_keeps (.refl [] _))).flags f h

theorem socketState_setSocket (k : Socket) (x : SocketState) (l : Lamp) :
    socketState (setSocket k x l) k = x ∧ socketState (setSocket k x l) (otherSocket k) = socketState l (otherSocket k) := by
  cases k <;> exact ⟨rfl, rfl⟩

/-- Only the sockets decide a socket's state. -/
theorem socketState_congr {l l' : Lamp} (p : l'.primary = l.primary) (q : l'.spare = l.spare) (k : Socket) :
    socketState l' k = socketState l k := by
  cases k
  · exact p
  · exact q

theorem setSocket_rest (k : Socket) (x : SocketState) (l : Lamp) : setSocket k x l = { l with
    primary := (setSocket k x l).primary, spare := (setSocket k x l).spare } := by
  cases k <;> rfl

/-! ### The fan watch (R97, R98) -/

/-- Settles O26. -/
theorem filamentAndFanFailures : Obligations.FilamentAndFanFailures := by
  refine ⟨fun s lit third => ?_, fun s spinUp => ?_, fun s watching => ?_, fun s failed driven => ?_, fun s watching => ?_,
    fun s failed run => ?_, fun s failed run => ?_⟩
  · obtain ⟨u, hu⟩ : ∃ u : State, u = setFlag (socketFlag s.lamp.active) (postGate .lampFailed .lamp noCue
        s.lamp.active.code Failure.openFilament.code { s with lamp := setSocket s.lamp.active .failed s.lamp }) := ⟨_, rfl⟩
    have flag : flagOn u (socketFlag s.lamp.active) = true := hu ▸ flagOn_setFlag_self _ _
    have lamp : u.lamp = setSocket s.lamp.active .failed s.lamp := by simp [hu]
    have transport : u.transport = s.transport := by simp [hu]
    have power : u.power = s.power := by simp [hu]
    have path : u.path = s.path := by simp [hu]
    have clock : u.clock = s.clock := by simp [hu]
    have room : u.log.ring.length ≤ 64 := hu ▸ post_ring_length _ _ _ _ _ _ _
    have last : u.log.ring.getLast? = some
        { sequence := s.log.next, kind := .lampFailed, source := .lamp, time := s.clock.showClock, cueNo := 0xFFFF,
          slot := slotByte s.transport.slotInGate, detail1 := if s.lamp.active = .primary then 0 else 1,
          detail2 := 1 } := by
      rw [hu]
      refine (postGate_spec _ _ _ _ _ _).2.2.trans ?_
      cases s.lamp.active <;> rfl
    have sockets := socketState_setSocket s.lamp.active .failed s.lamp
    have ran : execOpenFilament s = .next (socketFails .openFilament s) := congrArg Host.Outcome.next (if_pos ⟨lit, third⟩)
    refine ⟨_, ran, ?_⟩
    unfold socketFails
    dsimp only
    rw [← hu]
    by_cases swap : optAutoSpare s.path.settings = true ∧ socketState s.lamp (otherSocket s.lamp.active) = .good
    · rw [if_pos swap, if_pos swap]
      obtain ⟨r, dark⟩ := leaveLit_lamp_ramp .swapping u
      have swapped : (startSwap (otherSocket s.lamp.active) true (leaveLit .swapping u)).lamp = { u.lamp with
          state := .swapping, duty := 0, openCount := 0, ramp := r, active := otherSocket s.lamp.active
          carriageTimer := some (s.clock.now + 2000000), swapStart := s.clock.now, failureSwap := true } := by
        simp [dark, startTimer, twoSeconds, clock]
      rw [swapped]
      refine ⟨rfl, rfl, ?_, by exact flagOn_leaveLit flag, ?_, fun powered => ?_, ⟨rfl, rfl, rfl⟩, ?_, by simp [path]⟩
      · exact (socketState_congr (by rw [← lamp]) (by rw [← lamp]) _).trans sockets.1
      · exact (socketState_congr (by rw [← lamp]) (by rw [← lamp]) _).trans sockets.2
      · exact ((leaveLit_logs .swapping (by rwa [power])).same (by simp)).keeps_last room (by decide) last
      · simp [leaveLit_transportState, transport]
    · rw [if_neg swap, if_neg swap]
      obtain ⟨v, hv⟩ : ∃ v : State, v = { u with lamp := { u.lamp with goingOff := none } } := ⟨_, rfl⟩
      obtain ⟨r, dark⟩ := leaveLit_lamp_ramp .fault v
      have faulted : (leaveLit .fault v).lamp = { u.lamp with
          state := .fault, goingOff := none, duty := 0, openCount := 0, ramp := r } := by rw [dark, hv]
      have flagged : flagOn v (socketFlag s.lamp.active) = true := by rw [hv]; exact flag
      have active : u.lamp.active = s.lamp.active := by rw [lamp, setSocket_rest]
      rw [← hv]
      generalize reason : (if socketState s.lamp (otherSocket s.lamp.active) = .failed then 1 else 2 : Nat) = why
      have posted : (postNoLamp why s.lamp.active.code (leaveLit .fault v)).lamp = (leaveLit .fault v).lamp := by simp
      rw [posted, faulted]
      refine ⟨rfl, rfl, ?_, ?_, ?_, fun powered => ?_, ⟨rfl, active, rfl, flagOn_setFlag_self _ _⟩, ?_, by simp [hv, path]⟩
      · exact (socketState_congr (by rw [← lamp]) (by rw [← lamp]) _).trans sockets.1
      · exact (setFlag_keeps _ (postGate_keeps _ _ _ _ _ (.refl [] _))).flags _ (flagOn_leaveLit flagged)
      · exact (socketState_congr (by rw [← lamp]) (by rw [← lamp]) _).trans sockets.2
      · have logs : Logs 2 v (postNoLamp why s.lamp.active.code (leaveLit .fault v)) :=
          ((leaveLit_logs .fault (by rwa [hv, power])).postGate _ _ _ _ _).setFlag _
        exact logs.keeps_last (by rw [hv]; exact room) (by decide) (by rw [hv]; exact last)
      · simp [leaveLit_transportState, hv, transport]
  · exact congrArg Host.Outcome.next (if_pos spinUp)
  · refine congrArg Host.Outcome.next ?_
    simp [watching, startTimer, fanGapUs]
  · refine congrArg Host.Outcome.next ?_
    cases recovery : s.power.recovery <;>
      simp [failed, Nat.pos_iff_ne_zero.mp driven, startTimer, fanGapUs, oneSecond]
  · refine ⟨_, congrArg Host.Outcome.next (if_pos watching), ?_⟩
    obtain ⟨same, next, last⟩ := postGate_spec .fanFailed .cooling noCue s.power.fanDuty 0
      { s with power := { s.power with fanWatch := .failed, gapTimer := none, recovery := none } }
    refine ⟨by simp, by simp, flagOn_setFlag_self _ _, next, last, by simp, by simp⟩
  · exact congrArg Host.Outcome.next (if_pos ⟨failed, run⟩)
  · exact congrArg Host.Outcome.next (if_pos ⟨failed, run⟩)

end Sys2Proof.Machine
end

section
/-! PROOFS. The deck unit and the cue track: braking, tape end and time, edges and passes, the writer's cells, and a written
frame as the decoder reads it. -/

namespace Sys2Proof.Machine

set_option Elab.async false

/-! ### The deck's modes (R104, R106, R108) -/

/-- Nothing but the deck with its neighbours, the decoder and the writer, changes (R106). -/
def TapeOnly (s t : State) : Prop := t = { s with deck := t.deck, decoder := t.decoder, writer := t.writer }

theorem TapeOnly.trans {s t u : State} (h : TapeOnly s t) (k : TapeOnly t u) : TapeOnly s u := by
  unfold TapeOnly at *
  rw [k, h]

/-- What a change of mode makes of the deck, and what it leaves (R106). -/
structure Entered (m : DeckMode) (s t : State) : Prop where
  mode : t.deck.mode = m
  locate : t.deck.locate = s.deck.locate
  pending : t.deck.pending = s.deck.pending
  brakeTimer : t.deck.brakeTimer = s.deck.brakeTimer
  brakeForward : t.deck.brakeForward = s.deck.brakeForward
  counter : t.deck.counter = s.deck.counter
  tape : TapeOnly s t

theorem setDeckMode_entered (m : DeckMode) (s : State) : Entered m s (setDeckMode m s) := by
  unfold setDeckMode
  split
  · exact ⟨‹_›, rfl, rfl, rfl, rfl, rfl, rfl⟩
  · exact ⟨rfl, rfl, rfl, rfl, rfl, rfl, rfl⟩

theorem resolveLocate_spec {s : State} {target : Int} (locate : s.deck.locate = some target) :
    (s.deck.counter < target → resolveLocate s = setDeckMode .fastFwd s) ∧
    (target < s.deck.counter → resolveLocate s = setDeckMode .rewind s) ∧
    (s.deck.counter = target → resolveLocate s = setDeckMode .stop { s with deck := { s.deck with locate := none } }) := by
  refine ⟨fun h => ?_, fun h => ?_, fun h => ?_⟩
  · simp [resolveLocate, locate, h]
  · simp [resolveLocate, locate, h, Int.not_lt.mpr (Int.le_of_lt h)]
  · simp [resolveLocate, locate, h]

/-- Settles O27. -/
theorem deckTimersAct : Obligations.DeckTimersAct := by
  refine ⟨fun s braking => ?_, ⟨fun s rewind => ?_, fun s winding => ?_⟩, fun s moving => ?_, fun s active => ?_⟩
  · refine ⟨_, congrArg Host.Outcome.next (if_pos braking), ?_⟩
    obtain ⟨u, hu⟩ : ∃ u : State, u = { s with deck := { s.deck with pending := none, brakeTimer := none } } := ⟨_, rfl⟩
    have start : TapeOnly s u := by rw [hu]; rfl
    have at_ (m : DeckMode) := setDeckMode_entered m u
    cases pending : s.deck.pending with
    | none =>
      have ended : endBraking s = setDeckMode .stop u := by simp [endBraking, pending, hu]
      rw [ended]
      refine ⟨by rw [(at_ _).pending, hu], by rw [(at_ _).brakeTimer, hu], by rw [(at_ _).counter, hu], nofun, nofun,
        start.trans (at_ _).tape⟩
    | some p =>
      cases p with
      | mode m =>
        have ended : endBraking s = setDeckMode m u := by simp [endBraking, pending, hu]
        rw [ended]
        refine ⟨by rw [(at_ _).pending, hu], by rw [(at_ _).brakeTimer, hu], by rw [(at_ _).counter, hu],
          fun m' _ e => ?_, nofun, start.trans (at_ _).tape⟩
        cases e
        exact ⟨(at_ _).mode, by rw [(at_ _).locate, hu]⟩
      | locate =>
        have ended : endBraking s = resolveLocate u := by simp [endBraking, pending, hu]
        rw [ended]
        have same : u.deck.counter = s.deck.counter := by rw [hu]
        have clear : u.deck.pending = none ∧ u.deck.brakeTimer = none := by rw [hu]; exact ⟨rfl, rfl⟩
        cases locate : s.deck.locate with
        | none =>
          have stopped : resolveLocate u = setDeckMode .stop u := by simp [resolveLocate, hu, locate]
          rw [stopped]
          exact ⟨(at_ _).pending.trans clear.1, (at_ _).brakeTimer.trans clear.2, (at_ _).counter.trans same,
            (fun _ _ e => nomatch e), (fun _ _ e => nomatch e), start.trans (at_ _).tape⟩
        | some c =>
          have waits : u.deck.locate = some c := by rw [hu]; exact locate
          obtain ⟨ahead, behind, there⟩ := resolveLocate_spec waits
          rw [same] at ahead behind there
          rcases Int.lt_trichotomy s.deck.counter c with h | h | h
          · rw [ahead h]
            refine ⟨(at_ _).pending.trans clear.1, (at_ _).brakeTimer.trans clear.2, (at_ _).counter.trans same,
              (fun _ _ e => nomatch e), fun target _ e => ?_, start.trans (at_ _).tape⟩
            cases e
            exact ⟨fun _ => ⟨(at_ _).mode, (at_ _).locate.trans waits⟩, fun _ => by omega, fun _ => by omega⟩
          · rw [there h]
            have stopped := setDeckMode_entered .stop { u with deck := { u.deck with locate := none } }
            refine ⟨stopped.pending.trans clear.1, stopped.brakeTimer.trans clear.2, stopped.counter.trans same,
              (fun _ _ e => nomatch e), fun target _ e => ?_, start.trans (.trans (by exact rfl) stopped.tape)⟩
            cases e
            exact ⟨fun _ => by omega, fun _ => by omega, fun _ => ⟨stopped.mode, stopped.locate⟩⟩
          · rw [behind h]
            refine ⟨(at_ _).pending.trans clear.1, (at_ _).brakeTimer.trans clear.2, (at_ _).counter.trans same,
              (fun _ _ e => nomatch e), fun target _ e => ?_, start.trans (at_ _).tape⟩
            cases e
            exact ⟨fun _ => by omega, fun _ => ⟨(at_ _).mode, (at_ _).locate.trans waits⟩, fun _ => by omega⟩
  · refine ⟨setDeckMode .stop { s with deck := { s.deck with counter := 0, locate := none } },
      congrArg Host.Outcome.next (by simp only [rewind]), ?_⟩
    simp [setDeckMode, rewind, DeckMode.moving]
  · have ends : execTapeEnd s = .next (tapeEnded s) := by
      rcases winding with h | h | h <;> simp [execTapeEnd, h]
    have forward : s.deck.mode ≠ .rewind := by rcases winding with h | h | h <;> simp [h]
    have held (u : State) : (holdAtTapeEnd u).deck = u.deck := by
      unfold holdAtTapeEnd
      split <;> rfl
    have show_ (u : State) : (holdAtTapeEnd u).engine = { u.engine with runState := heldState u.engine.runState } := by
      unfold holdAtTapeEnd
      cases run : u.engine.runState <;> simp [heldState, ← run]
    obtain ⟨u, hu⟩ : ∃ u : State, u = startBraking (.mode .stop) { s with deck := { s.deck with locate := none } } :=
      ⟨_, rfl⟩
    have braking : Entered .braking { s with deck := { s.deck with
        locate := none, brakeForward := true, brakeTimer := some (s.clock.now + brakeTime s.path.settings)
        pending := some (.mode .stop) } } u := by
      rw [hu]
      simpa [startBraking, forward, startTimer] using setDeckMode_entered .braking { s with deck := { s.deck with
        locate := none, brakeForward := true, brakeTimer := some (s.clock.now + brakeTime s.path.settings)
        pending := some (.mode .stop) } }
    have engine : u.engine = s.engine := by rw [braking.tape]
    refine ⟨_, ends, ?_⟩
    simp only [tapeEnded, ← hu, held, show_, setFlag_frame, postGate_frame]
    refine ⟨braking.mode, braking.pending, braking.brakeForward, braking.brakeTimer, braking.locate, braking.counter,
      (holdAtTapeEnd_keeps (.refl [] _)).flags _ (flagOn_setFlag_self _ _), ?_⟩
    rw [engine]
    cases s.engine.runState <;> rfl
  · refine congrArg Host.Outcome.next ((if_pos moving).trans ?_)
    simp only [startTimer, oneSecond]
    rfl
  · refine congrArg Host.Outcome.next ?_
    by_cases ends : s.deck.ramp.n ≤ s.deck.ramp.k + 1
    · simp [audioStage, active, ends, Nat.not_lt.mpr ends, startTimer, lampPeriodUs]
    · simp [audioStage, active, ends, Nat.not_le.mp ends, startTimer, lampPeriodUs, lerp]

/-! ### Edges and passes (R114 to R116, R124) -/

/-- What no interval changes of the decoder: its reference, its ring and its pass timer (R116). -/
def KeepsRing (d d' : Decoder) : Prop := d'.reference = d.reference ∧ d'.ring = d.ring ∧ d'.passTimer = d.passTimer

theorem huntTake_keepsRing (i : Nat) (d : Decoder) : KeepsRing d (huntTake i d) := by
  unfold huntTake
  (repeat' split) <;> exact ⟨rfl, rfl, rfl⟩

theorem completeFrame_keepsRing (f : CueFrame) (t : Clock32) (s : State) :
    KeepsRing s.decoder (completeFrame f t s).decoder := by
  have delivered (u : State) : (deliver f u).decoder = u.decoder := by
    unfold deliver
    split <;> simp
  unfold completeFrame
  dsimp only
  split
  · exact ⟨rfl, rfl, rfl⟩
  · split
    · exact ⟨rfl, rfl, rfl⟩
    · rw [delivered]
      exact ⟨rfl, rfl, rfl⟩

theorem takeBit_keepsRing (b : Bool) (t : Clock32) (s : State) : KeepsRing s.decoder (takeBit b t s).decoder := by
  unfold takeBit
  dsimp only
  split
  · exact ⟨rfl, rfl, rfl⟩
  · split
    · exact ⟨rfl, rfl, rfl⟩
    · split
      · exact ⟨rfl, rfl, rfl⟩
      · split
        · exact ⟨rfl, rfl, rfl⟩
        · split
          · exact completeFrame_keepsRing _ _ { s with decoder := { s.decoder with bits := [], chars := _ } }
          · exact ⟨rfl, rfl, rfl⟩

theorem dataTake_keepsRing (i : Nat) (t : Clock32) (s : State) : KeepsRing s.decoder (dataTake i t s).decoder := by
  unfold dataTake completeBit
  split
  · exact ⟨rfl, rfl, rfl⟩
  · exact takeBit_keepsRing _ _ { s with decoder := { s.decoder with half := none, cell := _ } }
  · exact takeBit_keepsRing _ _ { s with decoder := { s.decoder with half := none, cell := _ } }
  · exact ⟨rfl, rfl, rfl⟩

theorem takeInterval_keepsRing (i : Nat) (t : Clock32) (s : State) : KeepsRing s.decoder (takeInterval i t s).decoder := by
  unfold takeInterval
  split
  · exact ⟨rfl, rfl, rfl⟩
  · exact huntTake_keepsRing i s.decoder
  · unfold preambleTake
    (repeat' split) <;> exact ⟨rfl, rfl, rfl⟩
  · unfold syncTake
    split <;> exact ⟨rfl, rfl, rfl⟩
  · exact dataTake_keepsRing i t s
  · unfold trailerTake
    split
    · exact ⟨rfl, rfl, rfl⟩
    · exact huntTake_keepsRing i (enterHunt s.decoder.reference s.decoder)
    · exact ⟨rfl, rfl, rfl⟩
    · exact ⟨rfl, rfl, rfl⟩

/-- The edge taken becomes the reference (R116). -/
theorem takeEdge_reference (t : Clock32) (s : State) : (takeEdge t s).decoder.reference = some t ∧
    (takeEdge t s).decoder.ring = s.decoder.ring ∧ (takeEdge t s).decoder.passTimer = s.decoder.passTimer := by
  unfold takeEdge
  dsimp only
  split
  · exact ⟨rfl, rfl, rfl⟩
  · exact takeInterval_keepsRing _ t { s with decoder := { s.decoder with reference := some t } }

/-- The last edge taken is the reference (R116). -/
theorem takeEdges_reference (e : Clock32) : ∀ (es : List Clock32) (s : State),
    (takeEdges (es ++ [e]) s).decoder.reference = some e ∧ (takeEdges (es ++ [e]) s).decoder.ring = s.decoder.ring ∧
      (takeEdges (es ++ [e]) s).decoder.passTimer = s.decoder.passTimer := by
  intro es
  induction es with
  | nil => exact fun s => takeEdge_reference e s
  | cons t ts ih =>
    intro s
    obtain ⟨reference, ring, timer⟩ := ih (takeEdge t s)
    obtain ⟨-, ring', timer'⟩ := takeEdge_reference t s
    exact ⟨reference, ring.trans ring', timer.trans timer'⟩

theorem stalenessTest_keepsRing (now : Clock32) (d : Decoder) : KeepsRing d (stalenessTest now d) := by
  unfold stalenessTest
  (repeat' split) <;> exact ⟨rfl, rfl, rfl⟩

/-! ### The writer's cells (R131, R132) -/

/-- Whether the symbol in a slot makes its middle transition (Table 6-1). -/
theorem midTransition_slot (slot : Option Symbol) (run : Nat) : midTransition (slot.getD .zero) run =
    (match slot with
      | some .one => true
      | some .sync => decide (run = 1)
      | _ => false) := by
  cases slot with
  | none => rfl
  | some x => cases x <;> rfl

theorem startTransition_slot (slot : Option Symbol) (run : Nat) : startTransition (slot.getD .zero) run =
    (match slot with
      | some .sync => decide (run = 0)
      | _ => true) := by
  cases slot with
  | none => rfl
  | some x => cases x <;> rfl

theorem setDeckMode_writer {m : DeckMode} {s : State} (other : s.deck.mode ≠ m) :
    (setDeckMode m s).writer = writerFor s.clock.now s.deck.mode m s.writer := by
  simp [setDeckMode, other]

theorem passMiddle_level (w : Writer) :
    (passMiddle w).level = (w.level ^^ (!w.midDone && midTransition (currentSymbol w) w.syncRun)) ∧
      (passMiddle w).syncRun = w.syncRun := by
  unfold passMiddle
  cases done : w.midDone <;> simp

/-- At a cell boundary the line makes the middle transition still to come, and the start transition of the next cell (R132). -/
theorem boundary_level (now : Nat) {w : Writer} (sorted : assocSorted w.slots = true) :
    (beginCell now (completeCell (passMiddle w))).level =
      ((w.level ^^ (!w.midDone && midTransition ((assocGet w.slots w.pointer).getD .zero) w.syncRun)) ^^
        startTransition ((assocGet w.slots ((w.pointer + 1) % 256)).getD .zero)
          (beginCell now (completeCell (passMiddle w))).syncRun) := by
  obtain ⟨slots, pointer, -, -⟩ := passMiddle_frame w
  have apart : w.pointer ≠ (w.pointer + 1) % 256 := by omega
  have next : currentSymbol (completeCell (passMiddle w)) = (assocGet w.slots ((w.pointer + 1) % 256)).getD .zero := by
    simp only [currentSymbol, completeCell, slots, pointer]
    rw [assocGet_erase _ _ _ sorted, if_neg apart]
  have level : (completeCell (passMiddle w)).level = (passMiddle w).level := rfl
  rw [show (beginCell now (completeCell (passMiddle w))).level = ((completeCell (passMiddle w)).level ^^
    startTransition (currentSymbol (completeCell (passMiddle w))) (completeCell (passMiddle w)).syncRun) from rfl,
    next, level, (passMiddle_level w).1]
  rfl

/-- Settles O30. -/
theorem cueTrackEventsAct : Obligations.CueTrackEventsAct := by
  refine ⟨⟨fun s play room => ?_, fun s play full => ?_, fun s idle => ?_⟩, ⟨fun es e s on ring => ?_, fun r s data empty ref late => ?_⟩,
    ⟨fun s record => ?_, fun s idle => ?_⟩, fun mid s sorted hmid => ⟨fun record => ?_, fun idle => ?_, fun m record left quiet => ?_,
      fun empty due record => ?_⟩⟩
  · exact congrArg Host.Outcome.next ((if_pos play).trans (by simp [storeEdge, room]))
  · refine ⟨_, congrArg Host.Outcome.next (if_pos play), ?_⟩
    simp [storeEdge, full, enterHunt, satInc]
  · exact congrArg Host.Outcome.next (if_neg idle)
  · refine ⟨_, congrArg Host.Outcome.next (if_neg on), ?_⟩
    obtain ⟨reference, ring', timer⟩ := takeEdges_reference e es { s with decoder := { s.decoder with
      ring := [], passTimer := startTimer passPeriodUs s } }
    simp only [decodePass, ring]
    obtain ⟨reference', ring'', timer'⟩ := stalenessTest_keepsRing s.clock.micros (takeEdges (es ++ [e])
      { s with decoder := { s.decoder with ring := [], passTimer := startTimer passPeriodUs s } }).decoder
    exact ⟨ring''.trans ring', reference'.trans reference, timer'.trans timer⟩
  · have on : s.decoder.state ≠ .off := by simp [data]
    refine ⟨_, congrArg Host.Outcome.next (if_neg on), ?_⟩
    simp [decodePass, empty, takeEdges, stalenessTest, stale, ref, late, data, frameError, enterHunt, countFrameError, satInc,
      -BitVec.toNat_sub]
  · refine ⟨_, congrArg Host.Outcome.next (if_pos record), ?_⟩
    obtain ⟨slots, pointer, sequence, -⟩ := passMiddle_frame s.writer
    have run : (passMiddle s.writer).syncRun = s.writer.syncRun := by unfold passMiddle; split <;> rfl
    have sync : (currentSymbol s.writer = .sync) = (assocGet s.writer.slots s.writer.pointer = some .sync) := by
      unfold currentSymbol
      cases assocGet s.writer.slots s.writer.pointer <;> simp
    have symbol : currentSymbol (passMiddle s.writer) = currentSymbol s.writer := by simp [currentSymbol, slots, pointer]
    simp [beginCell, completeCell, slots, pointer, sequence, run, symbol, sync, cellUs]
  · exact congrArg Host.Outcome.next (if_neg idle)
  · have middle : mid = midTransition ((assocGet s.writer.slots s.writer.pointer).getD .zero) s.writer.syncRun :=
      hmid.trans (midTransition_slot _ _).symm
    refine ⟨_, congrArg Host.Outcome.next (if_pos record), rfl, rfl, ?_⟩
    have level := boundary_level s.clock.now sorted
    rw [startTransition_slot, ← middle] at level
    exact level
  · have entered : (setDeckMode .record s).writer = beginCell s.clock.now s.writer := by
      rw [setDeckMode_writer idle, writerFor, if_pos rfl]
    rw [entered, beginCell, currentSymbol, startTransition_slot]
    rfl
  · have paused : (setDeckMode m s).writer = pauseWriter s.clock.now s.writer := by
      have from_ : s.deck.mode ≠ m := fun e => left (e.symm.trans record)
      rw [setDeckMode_writer from_, writerFor, if_neg left, if_pos record]
    rw [paused, pauseWriter]
    rcases quiet with done | early
    · simp [passMiddle, done]
    · simp [Nat.not_le.mpr early]
  · have middle : mid = midTransition ((assocGet s.writer.slots s.writer.pointer).getD .zero) s.writer.syncRun :=
      hmid.trans (midTransition_slot _ _).symm
    refine ⟨idle s, by simp [step, empty, due], fun undone reached => ?_, fun over_ => ?_⟩
    · rw [middle]
      simp [idle, record, reached, passMiddle, undone, currentSymbol]
    · rcases over_ with done | early
      · simp [idle, passMiddle, done]
      · simp [idle, Nat.not_le.mpr early]

end Sys2Proof.Machine
end

section
/-! PROOFS. The characters of a written frame, as the decoder assembles them (R121 to R123, R134). -/

namespace Sys2Proof.Machine

set_option Elab.async false

theorem countOnes_append (a b : List Bool) : countOnes (a ++ b) = countOnes a + countOnes b := by
  induction a with
  | nil => simp [countOnes]
  | cons x a ih => simp [countOnes, ih, Nat.add_assoc]

@[simp] theorem length_charBits (c : Byte) : (charBits c).length = 8 := by simp [charBits]

/-- The eight bits of a character spell it. -/
theorem bitsByte_charBits (c : Byte) : bitsByte (charBits c) = c.toNat := by
  have lt := c.isLt
  have bit : ∀ n [Decidable (n % 2 = 1)], (if n % 2 = 1 then 1 else 0) = n % 2 := fun n _ => by split <;> omega
  simp only [charBits, List.range, List.range.loop, List.map, bitsByte, BitVec.getLsbD, Nat.testBit_eq_decide_div_mod_eq,
    decide_eq_true_eq, bit]
  omega

/-- The bits that the ten cells of a character carry. -/
def cellBits (c : Byte) : List Bool := false :: charBits c ++ [countOnes (charBits c) % 2 == 0]

theorem map_charCells (c : Byte) : (charCells c).map (fun cell => decide (cell = .one)) = cellBits c := by
  have bit : ∀ b, decide (bitSymbol b = .one) = b := by decide
  have bits : (fun cell => decide (cell = Symbol.one)) ∘ bitSymbol = id := funext bit
  simp only [charCells, cellBits, List.map_append, List.map_cons, List.map_map, bits, bit, List.map_id, List.map_nil]
  rfl

/-- Character assembly takes the bits of a list, oldest first. -/
def takeBits (t : Clock32) (bits : List Bool) (s : State) : State := bits.foldl (fun x b => takeBit b t x) s

/-- Fewer than ten bits stay in assembly. -/
theorem takeBits_short (t : Clock32) (bits : List Bool) : ∀ s : State, s.decoder.bits ≠ [] →
    s.decoder.bits.length + bits.length < 10 →
    takeBits t bits s = { s with decoder := { s.decoder with bits := s.decoder.bits ++ bits } } := by
  induction bits with
  | nil => intro s _ _; simp [takeBits]
  | cons b bits ih =>
    intro s some_ short
    simp only [List.length_cons] at short
    have step : takeBit b t s = { s with decoder := { s.decoder with bits := s.decoder.bits ++ [b] } } := by
      have room : (s.decoder.bits ++ [b]).length < 10 := by simp; omega
      simp only [takeBit, some_, false_and, if_false, if_pos room]
    show takeBits t bits (takeBit b t s) = _
    rw [step, ih _ (by simp) (by simp; omega)]
    simp

/-- A character's cells, from an empty assembly, make the character one of the frame's, and the frame complete where it
is the last that the header announces (R122, R123). -/
theorem takeBits_cellBits (c h : Byte) (data : List Byte) (t : Clock32) (s : State) (empty : s.decoder.bits = [])
    (chars : s.decoder.chars ++ [c] = h :: data) :
    takeBits t (cellBits c) s =
      if headerCount h ≤ data.length then
        completeFrame (frameOf h data) t { s with decoder := { s.decoder with bits := [], chars := h :: data } }
      else { s with decoder := { s.decoder with bits := [], chars := h :: data } } := by
  have first : takeBit false t s = { s with decoder := { s.decoder with bits := [false] } } := by
    simp [takeBit, empty]
  have eight : takeBits t (charBits c) { s with decoder := { s.decoder with bits := [false] } }
      = { s with decoder := { s.decoder with bits := false :: charBits c } } :=
    takeBits_short t _ _ (by simp) (by simp)
  have odd : countOnes (charBits c ++ [countOnes (charBits c) % 2 == 0]) % 2 ≠ 0 := by
    rw [countOnes_append]
    by_cases even : countOnes (charBits c) % 2 = 0 <;> simp [countOnes, even] <;> omega
  have spelled : toByte (bitsByte ((charBits c ++ [countOnes (charBits c) % 2 == 0]).take 8)) = c := by
    rw [List.take_append_of_le_length (by simp), List.take_of_length_le (by simp), bitsByte_charBits]
    simp [toByte]
  have split_ : takeBits t (cellBits c) s =
      takeBit (countOnes (charBits c) % 2 == 0) t (takeBits t (charBits c) (takeBit false t s)) := by
    simp [takeBits, cellBits, List.foldl_append]
  rw [split_, first, eight]
  simp only [takeBit, List.cons_ne_nil, false_and, if_false, List.cons_append, List.drop_succ_cons, List.drop_zero, odd, spelled,
    chars]
  simp

/-- Where a well-formed frame completes with no last accepted frame, it is accepted (R126 to R128). -/
theorem completeFrame_accepts {f : CueFrame} (t : Clock32) {s : State} (good : wellFormed f = true)
    (none_ : s.decoder.accepted = none) :
    (completeFrame f t s).decoder =
      { s.decoder with
        state := .trailer, half := none, bits := [], chars := []
        accepted := some { kind := f.kind, sequence := f.sequence, data := f.data, time := t } } := by
  simp [completeFrame, good, duplicates, none_]

theorem frameNumber_wordBytes (w : Word) : frameNumber (wordBytes w) = w := by
  refine BitVec.eq_of_getLsbD_eq fun i hi => ?_
  have split_ : (frameNumber (wordBytes w)).getLsbD i =
      if i < 8 then (w.setWidth 8).getLsbD i else ((w >>> 8).setWidth 8).getLsbD (i - 8) := by
    rw [← BitVec.getLsbD_append]
    rfl
  rw [split_]
  split
  next low => simp [low]
  next high => simp [show i - 8 < 8 by omega, show 8 + (i - 8) = i by omega]

/-! ### A whole frame -/

/-- A header character announces the data count of its kind, and its fields read as they were written (R123, R134). -/
theorem headerChar_fields {kind sequence : Nat} (low : 1 ≤ kind) (high : kind ≤ 6) (seq : sequence < 4) (data : List Byte) :
    headerCount (headerChar kind sequence) = (dataCount kind).getD 0 ∧
      frameOf (headerChar kind sequence) data =
        { kind := kind, count := (dataCount kind).getD 0, sequence := sequence, data := data } := by
  have table : ∀ k < 7, ∀ q < 4, 1 ≤ k →
      headerCount (headerChar k q) = (dataCount k).getD 0 ∧ (headerChar k q).toNat / 16 = k ∧
        (headerChar k q).toNat / 4 % 4 = (dataCount k).getD 0 ∧ (headerChar k q).toNat % 4 = q := by decide
  obtain ⟨announced, kind_, count, sequence_⟩ := table kind (by omega) sequence seq low
  exact ⟨announced, by rw [frameOf, kind_, count, sequence_]⟩

/-- A kind carries no data or two characters of it (Table 5-4). -/
theorem dataCount_cases {kind : Nat} (low : 1 ≤ kind) (high : kind ≤ 6) :
    dataCount kind = some 0 ∧ kind ≠ 3 ∨ dataCount kind = some 2 := by
  have table : ∀ k < 7, 1 ≤ k → dataCount k = some 0 ∧ k ≠ 3 ∨ dataCount k = some 2 := by decide
  exact table kind (by omega) low

theorem takeBits_append (t : Clock32) (a b : List Bool) (s : State) :
    takeBits t (a ++ b) s = takeBits t b (takeBits t a s) := List.foldl_append ..

/-- The cells of a list of characters carry the bits of each in turn. -/
theorem takeCells_eq (t : Clock32) (cs : List Byte) (s : State) :
    (cs.flatMap charCells).foldl (fun x cell => takeBit (decide (cell = .one)) t x) s = takeBits t (cs.flatMap cellBits) s := by
  have bits : cs.flatMap cellBits = (cs.flatMap charCells).map fun cell => decide (cell = .one) := by
    rw [List.map_flatMap]
    exact congrArg (fun f => cs.flatMap f) (funext fun c => (map_charCells c).symm)
  rw [bits, takeBits, List.foldl_map]

/-- Settles O31: the header's ten cells, and where the kind carries data the two characters after it, complete the frame. -/
theorem writtenFrameIsAccepted : Obligations.WrittenFrameIsAccepted := by
  unfold Obligations.WrittenFrameIsAccepted
  intro kind sequence data t s low high seq number bits chars accepted
  rw [takeCells_eq]
  rcases dataCount_cases low high with ⟨count, notThree⟩ | count
  · obtain ⟨announced, fields⟩ := headerChar_fields low high seq []
    have good : wellFormed (frameOf (headerChar kind sequence) []) = true := by
      simp [fields, wellFormed, count, notThree]
    have one_ : takeBits t ((frameChars kind sequence data).flatMap cellBits) s = takeBits t (cellBits (headerChar kind sequence)) s := by
      simp [frameChars, count]
    rw [one_, takeBits_cellBits _ (headerChar kind sequence) [] t s bits (by simp [chars]), announced, count]
    rw [if_pos (by simp), completeFrame_accepts t good (by exact accepted), fields]
    simp
  · obtain ⟨announced, fields⟩ := headerChar_fields low high seq (wordBytes data)
    have good : wellFormed (frameOf (headerChar kind sequence) (wordBytes data)) = true := by
      simp only [fields, wellFormed, count, frameNumber_wordBytes]
      by_cases three : kind = 3 <;> simp [three, number]
    obtain ⟨lo, hi, pair⟩ : ∃ lo hi, wordBytes data = [lo, hi] := ⟨_, _, rfl⟩
    have three : takeBits t ((frameChars kind sequence data).flatMap cellBits) s =
        takeBits t (cellBits hi) (takeBits t (cellBits lo) (takeBits t (cellBits (headerChar kind sequence)) s)) := by
      simp [frameChars, count, pair, takeBits_append]
    rw [three, takeBits_cellBits _ (headerChar kind sequence) [] t s bits (by simp [chars]), announced, count,
      if_neg (by simp), takeBits_cellBits lo (headerChar kind sequence) [lo] t _ rfl rfl, announced, count, if_neg (by simp),
      takeBits_cellBits hi (headerChar kind sequence) [lo, hi] t _ rfl rfl, announced, count, if_pos (by simp), ← pair,
      completeFrame_accepts t good (by exact accepted), fields]
    simp

end Sys2Proof.Machine
end

section
/-! PROOFS. The line unit of a lead: the line comes up, the frames it sends follow on, its replies, misses and failures. -/

namespace Sys2Proof.Machine

set_option Elab.async false

/-! ### The choice of frame (R155) -/

theorem chooseFrame_of_busy {s : State} (busy : s.line.state ≠ .idle) : chooseFrame s = s := by
  simp [chooseFrame, busy]

theorem chooseFrame_of_holdOff {s : State} (held : s.line.holdOff = true) : chooseFrame s = s := by
  simp [chooseFrame, held]

theorem chooseFrame_broadcast {s : State} {m : LineMsg} {rest : List LineMsg} (idle : s.line.state = .idle)
    (free : s.line.holdOff = false) (queue : s.line.queue = m :: rest) : chooseFrame s = sendFrame m s := by
  simp [chooseFrame, idle, free, queue]

theorem chooseFrame_poll {s : State} {n : Nat} {ns : List Nat} (idle : s.line.state = .idle) (free : s.line.holdOff = false)
    (queue : s.line.queue = []) (due : s.line.syncDue = false) (polls : s.line.pollList = n :: ns) :
    chooseFrame s = sendFrame (.poll n) s := by
  simp [chooseFrame, idle, free, queue, due, polls]

theorem chooseFrame_nothing {s : State} (queue : s.line.queue = []) (due : s.line.syncDue = false)
    (polls : s.line.pollList = []) : chooseFrame s = s := by
  unfold chooseFrame
  split <;> simp [queue, due, polls]

/-- The lead in IDLE, before its next choice. -/
def idled (s : State) : State :=
  { s with line := { s.line with
      state := .idle, current := none, frameEnd := none, window := none, badFrame := false } }

theorem enterIdle_eq (s : State) : enterIdle s = chooseFrame (idled s) := rfl

theorem enterIdle_nothing {s : State} (queue : s.line.queue = []) (due : s.line.syncDue = false)
    (polls : s.line.pollList = []) : enterIdle s = idled s := chooseFrame_nothing queue due polls

theorem enterIdle_poll {s : State} {n : Nat} {ns : List Nat} (free : s.line.holdOff = false) (queue : s.line.queue = [])
    (due : s.line.syncDue = false) (polls : s.line.pollList = n :: ns) :
    enterIdle s = sendFrame (.poll n) (idled s) := chooseFrame_poll rfl free queue due polls

theorem enterIdle_broadcast {s : State} {m : LineMsg} {rest : List LineMsg} (free : s.line.holdOff = false)
    (queue : s.line.queue = m :: rest) : enterIdle s = sendFrame m (idled s) := chooseFrame_broadcast rfl free queue

/-! ### The line comes up (O32) -/

theorem fillPolls_alone {s : State} (empty : s.line.pollList = []) (none_ : followerCount s.path.settings = 0) :
    fillPolls s = { s with line := { s.line with pollList := [0] } } := by
  simp [fillPolls, empty, none_]

theorem fillPolls_round {s : State} (empty : s.line.pollList = []) (some_ : 1 ≤ followerCount s.path.settings) :
    fillPolls s = { s with line := { s.line with
      pollList := [0, nextFollower s.line.robin (followerCount s.path.settings)]
      robin := nextFollower s.line.robin (followerCount s.path.settings) } } := by
  have count : followerCount s.path.settings ≠ 0 := by omega
  simp [fillPolls, empty, count]

/-- The lead as its settling time ends, before the poll list is filled (R147). -/
def settled (s : State) : State :=
  { s with line := { s.line with
      settle := none, noAnswer := startTimer tenSeconds s, pollPeriod := startTimer pollPeriodUs s,
      syncDue := decide (1 ≤ followerCount s.path.settings), pollList := [] } }

theorem startLine_eq (s : State) : startLine s = enterIdle (fillPolls (settled s)) := rfl

/-- Settles O32: each timer's end and each detection by its guard; the settling timer's end by the filled list's first poll. -/
theorem lineComesUp : Obligations.LineComesUp := by
  unfold Obligations.LineComesUp
  refine ⟨⟨fun s off => ?_, fun s wait => ?_, fun s quiet => ?_⟩,
    ⟨fun v s detect low few => ?_, fun v s detect high => ?_, fun c v s detect three low hc => ?_⟩, fun s powering queue alone free => ?_⟩
  · exact congrArg Host.Outcome.next (if_pos off)
  · exact congrArg Host.Outcome.next (if_pos wait)
  · exact congrArg Host.Outcome.next (if_pos quiet)
  · refine congrArg Host.Outcome.next ((if_pos detect).trans ((if_pos low).trans (if_neg ?_)))
    omega
  · exact congrArg Host.Outcome.next ((if_pos detect).trans (if_neg (Nat.not_lt.mpr high)))
  · rcases hc with rfl | rfl
    · exact congrArg Host.Outcome.next ((if_pos detect).trans ((if_pos low).trans (if_pos (by omega))))
    · exact congrArg Host.Outcome.next (if_pos ⟨detect, by omega⟩)
  · refine congrArg Host.Outcome.next ((if_pos powering).trans ?_)
    have due : decide (1 ≤ followerCount s.path.settings) = false := by simp [alone]
    have polls := fillPolls_alone (s := settled s) rfl alone
    have bytes : lineBytes (.poll 0) = [0x01, 0xFF] := by decide
    rw [startLine_eq, polls, enterIdle_poll (s := { settled s with line := { (settled s).line with pollList := [0] } })
      (ns := []) free queue due rfl]
    simp [sendFrame, idled, settled, due, bytes, startTimer, tenSeconds, pollPeriodUs, frameBits, LineMsg.data]

/-! ### Frames follow on (O33) -/

/-- The broadcast at the head of the queue is sent (R156). -/
def withoutFirst (s : State) : State := { s with line := { s.line with queue := s.line.queue.drop 1 } }

/-- The SYNC is sent, and no longer due (R157). -/
def withoutSync (s : State) : State := { s with line := { s.line with syncDue := false } }

/-- A sent broadcast leaves its queue, and the lead enters IDLE (R156). -/
theorem frameSent_broadcast {s : State} {m : LineMsg} (current : s.line.current = some m) (notPoll : ∀ n, m ≠ .poll n)
    (notSync : ∀ x, m ≠ .sync x) :
    frameSent s = enterIdle (withoutFirst s) := by
  cases m with
  | poll n => exact absurd rfl (notPoll n)
  | sync x => exact absurd rfl (notSync x)
  | _ => simp [frameSent, current, withoutFirst]

/-- After the last broadcast the lead sends the SYNC due or the poll that waits, or is idle; nothing joins its queue (R155). -/
theorem enterIdle_queue (s : State) : (enterIdle s).line.queue = s.line.queue := by
  rw [enterIdle_eq]
  unfold chooseFrame
  (repeat' split) <;> simp [idled, sendFrame, sendSync]

/-- Settles O33: the sent frame by its kind; the sync timer and the poll period leave a busy lead its frame. -/
theorem leadFramesFollowOn : Obligations.LeadFramesFollowOn := by
  unfold Obligations.LeadFramesFollowOn
  refine ⟨⟨fun n s sending current => ?_, fun s awaiting => ?_⟩,
    fun s sending free => ⟨fun m rest current notPoll notSync queue => ?_, fun x current queue => ?_⟩,
    fun s sending timer => ?_, fun s sending timer polls count => ?_⟩
  · exact congrArg Host.Outcome.next ((if_pos sending).trans (by simp [frameSent, current, windowBits, startTimer]))
  · exact congrArg Host.Outcome.next (if_pos awaiting)
  · refine ⟨_, congrArg Host.Outcome.next ((if_pos sending).trans (frameSent_broadcast current notPoll notSync)), ?_⟩
    have rest_ : (withoutFirst s).line.queue = rest := by simp [withoutFirst, queue]
    refine ⟨(enterIdle_queue _).trans rest_, fun m' rest' more => ?_, fun none_ due noPolls => ?_⟩
    · rw [enterIdle_broadcast (s := withoutFirst s) free (rest_.trans more)]
      exact ⟨rfl, rfl⟩
    · rw [enterIdle_nothing (s := withoutFirst s) (rest_.trans none_) due noPolls]
      exact ⟨rfl, rfl⟩
  · have sent : frameSent s = enterIdle (withoutSync s) := by simp [frameSent, current, withoutSync]
    refine ⟨_, congrArg Host.Outcome.next ((if_pos sending).trans sent), ?_, fun n ns polls => ?_⟩
    · cases polls : s.line.pollList with
      | nil =>
        rw [enterIdle_nothing (s := withoutSync s) queue rfl polls]
        rfl
      | cons n ns =>
        rw [enterIdle_poll (s := withoutSync s) free queue rfl polls]
        rfl
    · rw [enterIdle_poll (s := withoutSync s) free queue rfl polls]
      exact ⟨rfl, rfl⟩
  · exact congrArg Host.Outcome.next ((if_pos timer).trans (chooseFrame_of_busy (by simp [sending])))
  · refine congrArg Host.Outcome.next ((if_pos timer).trans ?_)
    have filled := fillPolls_round (s := { s with line := { s.line with pollPeriod := startTimer pollPeriodUs s } }) polls count
    rw [filled, chooseFrame_of_busy (by simp [sending])]
    rfl

/-! ### Frames as a receiver judges them (O35) -/

/-- The check byte makes a frame's bytes sum to 0 (R152). -/
theorem byteSum_withCheck (bs : List Byte) : byteSum (withCheck bs) = 0 := by
  simp [withCheck, byteSum, List.foldl_append]

/-- A frame with a header of known kind, its data and the check byte is judged good (R152, R154). -/
theorem judge_withCheck {h : Byte} {data : List Byte} (length : dataLength (h.toNat / 32) (h.toNat % 32) = some data.length) :
    judge (.bytes (withCheck (h :: data))) = .good (h.toNat / 32) (h.toNat % 32) data := by
  have sum := byteSum_withCheck (h :: data)
  have count : (data ++ [0 - byteSum (h :: data)]).length = data.length + 1 := by simp
  have bytes : withCheck (h :: data) = h :: (data ++ [0 - byteSum (h :: data)]) := rfl
  rw [bytes] at sum ⊢
  simp only [judge, length, count, sum, ne_eq, not_true_eq_false, if_false, List.take_left]

/-- Settles O35: the header spells address and kind, of which Table 7-2 gives the data's length. -/
theorem leadFramesAreJudgedGood : Obligations.LeadFramesAreJudgedGood := by
  unfold Obligations.LeadFramesAreJudgedGood
  intro m station
  have header : (toByte (32 * m.address + m.code)).toNat = 32 * m.address + m.code := by
    cases m with
    | poll n => have := station n rfl; simp only [toByte, BitVec.toNat_ofNat, LineMsg.address, LineMsg.code]; omega
    | _ => rfl
  have small : m.code < 32 := by cases m <;> simp [LineMsg.code]
  have address : (32 * m.address + m.code) / 32 = m.address := by omega
  have code : (32 * m.address + m.code) % 32 = m.code := by omega
  have length : dataLength m.address m.code = some m.data.length := by
    cases m with
    | poll n => exact if_pos (station n rfl)
    | _ => rfl
  have good := judge_withCheck (h := toByte (32 * m.address + m.code)) (data := m.data) (by rw [header, address, code, length])
  rw [header, address, code] at good
  exact good

/-! ### The line goes down (R148 to R151) -/

theorem dropStation_line (n : Nat) (s : State) :
    (dropStation n s).line = setStation s.line n { stationOf s.line n with present := false, misses := 0 } := by
  unfold dropStation
  dsimp only
  split <;> simp

/-- A station as the line goes down: ABSENT with no misses (R151). -/
def dropped (st : Station) : Station := { st with present := false, misses := 0 }

theorem dropStations_line (s : State) :
    (dropStations s).line = { s.line with
      handset := dropped s.line.handset, follower1 := dropped s.line.follower1
      follower2 := dropped s.line.follower2, follower3 := dropped s.line.follower3 } := by
  simp [dropStations, dropStation_line, stationOf, setStation, followerOf, dropped]

theorem dropBroadcasts_line (s : State) : (dropBroadcasts s).line = { s.line with queue := [] } := by
  simp [dropBroadcasts]

theorem lineWithoutFollowers_line (s : State) :
    (lineWithoutFollowers s).line = { s.line with
      queue := [], handset := dropped s.line.handset, follower1 := dropped s.line.follower1
      follower2 := dropped s.line.follower2, follower3 := dropped s.line.follower3 } := by
  rw [lineWithoutFollowers, dropBroadcasts_line, dropStations_line]

theorem leavePowered_retry_line (s : State) : (leavePowered .retryWait s).line = abandonLine .retryWait s.line :=
  handsetReport_none_line _

theorem leavePowered_line {st : LineState} (s : State) (gone : st ≠ .retryWait) :
    (leavePowered st s).line = { abandonLine st s.line with
      queue := [], handset := dropped s.line.handset, follower1 := dropped s.line.follower1
      follower2 := dropped s.line.follower2, follower3 := dropped s.line.follower3 } := by
  rw [leavePowered, if_neg gone, lineWithoutFollowers_line, handsetReport_none_line]
  rfl

/-- The first and second overcurrent wait to retry (R148). -/
theorem overcurrent_retry {s : State} (few : s.line.overcurrents < 2) :
    (overcurrent s).line = { abandonLine .retryWait s.line with
      overcurrents := s.line.overcurrents + 1, quiet := startTimer tenSeconds s, retry := startTimer oneSecond s } := by
  have three : s.line.overcurrents + 1 < 3 := by omega
  simp only [overcurrent, if_pos three, leavePowered_retry_line]

/-- The third overcurrent takes the line out of use (R148, R151). -/
theorem overcurrent_fault {s : State} (many : 2 ≤ s.line.overcurrents) :
    flagOn (overcurrent s) .lineFault = true ∧ (overcurrent s).line = { abandonLine .lineFault s.line with
      queue := [], handset := dropped s.line.handset, follower1 := dropped s.line.follower1
      follower2 := dropped s.line.follower2, follower3 := dropped s.line.follower3
      overcurrents := s.line.overcurrents + 1, quiet := startTimer tenSeconds s } := by
  have three : ¬ s.line.overcurrents + 1 < 3 := by omega
  have line := leavePowered_line (st := .lineFault) s (by simp)
  simp [overcurrent, three, line]

theorem noAnswer_line (s : State) :
    (noAnswer s).line = { abandonLine .detect s.line with
      detectCount := 0, detectPeriod := startTimer detectPeriodUs s, discharge := none, queue := []
      handset := dropped s.line.handset, follower1 := dropped s.line.follower1
      follower2 := dropped s.line.follower2, follower3 := dropped s.line.follower3 } := by
  have line := leavePowered_line (st := .detect) s (by simp)
  have clock : (leavePowered .detect s).clock = s.clock := by simp
  simp [noAnswer, enterDetect, line, startTimer, abandonLine]

/-! ### Replies and misses (R154, R160) -/

theorem stationOf_setStation {n : Nat} (l : Line) (st : Station) (follower : n ≤ 3) : stationOf (setStation l n st) n = st := by
  match n, follower with
  | 0, _ => rfl
  | 1, _ => rfl
  | 2, _ => rfl
  | 3, _ => rfl

/-- The station records are all that `stationOf` reads. -/
theorem stationOf_congr {l m : Line} (n : Nat) (h0 : m.handset = l.handset) (h1 : m.follower1 = l.follower1)
    (h2 : m.follower2 = l.follower2) (h3 : m.follower3 = l.follower3) : stationOf m n = stationOf l n := by
  unfold stationOf followerOf
  split
  · exact h0
  · split <;> assumption

/-- A station's record after a miss: one more, ABSENT at three (R160). -/
def missed (st : Station) : Station :=
  { st with misses := satInc 255 st.misses, present := st.present && decide (satInc 255 st.misses < 3) }

theorem missed_misses (st : Station) : (missed st).misses = min 255 (st.misses + 1) := rfl

theorem missed_present (st : Station) : (missed st).present = true ↔ st.present = true ∧ st.misses < 2 := by
  have three : satInc 255 st.misses < 3 ↔ st.misses < 2 := by
    unfold satInc
    omega
  simp only [missed, Bool.and_eq_true, decide_eq_true_eq, three]

/-- A follower's miss changes its record and the poll list, and logs the follower's loss (R160). -/
theorem missedReply_follower {n : Nat} (s : State) (follower : 1 ≤ n) :
    (missedReply n s).line =
      { setStation s.line n (missed (stationOf s.line n)) with pollList := s.line.pollList.drop 1 } := by
  have notHandset : n ≠ 0 := by omega
  unfold missedReply
  dsimp only
  rw [if_neg notHandset]
  split <;> simp [missed]

/-- A follower's good reply changes its record, the no-answer timer and the poll list (R150, R160). -/
theorem goodReply_follower {n : Nat} (d : List Byte) (s : State) (follower : 1 ≤ n) :
    goodReply n d s = { s with line := { setStation s.line n { present := true, misses := 0, last := some d } with
      noAnswer := startTimer tenSeconds s, pollList := s.line.pollList.drop 1 } } := by
  obtain ⟨m, rfl⟩ : ∃ m, n = m + 1 := ⟨n - 1, by omega⟩
  rfl

/-- A follower's reply as it is judged: good where its bytes sum to 0 (R152, R154). -/
theorem judge_followerReply {n : Nat} (low : 1 ≤ n) (high : n ≤ 3) (d0 d1 d2 chk : Byte) :
    judge (.bytes [BitVec.ofNat 8 (32 * n + 16), d0, d1, d2, chk]) =
      if BitVec.ofNat 8 (32 * n + 16) + d0 + d1 + d2 + chk = 0 then .good n 16 [d0, d1, d2] else .check := by
  have header : (BitVec.ofNat 8 (32 * n + 16)).toNat = 32 * n + 16 := by rw [BitVec.toNat_ofNat]; omega
  have address : (32 * n + 16) / 32 = n := by omega
  have kind : (32 * n + 16) % 32 = 16 := by omega
  have length : dataLength n 16 = some 3 := by simp [dataLength, high, show n ≠ 0 by omega]
  simp only [judge, header, address, kind, length]
  simp only [byteSum, List.foldl_cons, List.foldl_nil, ne_eq, ite_not, List.length_cons, List.length_nil,
    List.take]
  simp

/-- A reply of the station polled goes to its judgement (R154). -/
theorem execReplyReceived_polled {n : Nat} {s : State} (rx : LineRx) (receiving : s.line.state = .receiving)
    (good : s.line.badFrame = false) (current : s.line.current = some (.poll n)) :
    exec (.replyReceived rx) s = .next (takeReply rx n s) := by
  refine congrArg Host.Outcome.next ((if_pos ⟨receiving, by simp [good]⟩).trans ?_)
  simp [polledStation, current]

/-- A window that closes on the station polled is its miss (R154). -/
theorem execReplyWindowTimeout_polled {n : Nat} {s : State} (low : Bool) (awaiting : s.line.state = .awaiting)
    (current : s.line.current = some (.poll n)) :
    exec (.replyWindowTimeout low) s =
      .next (enterIdle { missedReply n s with line := { (missedReply n s).line with holdOff := low } }) := by
  refine congrArg Host.Outcome.next ((if_pos awaiting).trans ?_)
  simp [polledStation, current]

theorem setStation_stays (l : Line) (n : Nat) (st : Station) :
    (setStation l n st).syncDue = l.syncDue ∧ (setStation l n st).holdOff = l.holdOff := by
  unfold setStation
  split <;> exact ⟨rfl, rfl⟩

/-- Settles O34: the line abandoned by each failure, and each reply or miss followed by the lead's next choice. -/
theorem lineFailuresAndReplies : Obligations.LineFailuresAndReplies := by
  unfold Obligations.LineFailuresAndReplies
  refine ⟨⟨fun s powered => ⟨_, congrArg Host.Outcome.next (if_pos powered), ?_⟩,
      fun s powered timer => ⟨_, congrArg Host.Outcome.next (if_pos ⟨powered, timer⟩), ?_⟩⟩,
    fun n d0 d1 d2 chk s low high receiving good current queue due polls => ⟨fun zero => ?_, fun bad => ?_⟩,
    fun n rest s low high awaiting current queue due polls => ?_, fun n s low high awaiting current => ?_,
    fun n ns s idle held queue due polls => ?_⟩
  · rcases Nat.lt_or_ge s.line.overcurrents 2 with few | many
    · have line := overcurrent_retry few
      simp [line, abandonLine, startTimer, tenSeconds, oneSecond, lineSwitch, LineState.powered, few]
    · obtain ⟨flag, line⟩ := overcurrent_fault many
      simp [line, flag, abandonLine, startTimer, tenSeconds, lineSwitch, LineState.powered, many, Nat.not_lt.mpr many, dropped]
  · simp [noAnswer_line, abandonLine, startTimer, detectPeriodUs, dropped]
  · have judged := judge_followerReply low high d0 d1 d2 chk
    rw [if_pos zero] at judged
    obtain ⟨-, -, queue_, polls_, -⟩ := setStation_frame s.line n { present := true, misses := 0, last := some [d0, d1, d2] }
    obtain ⟨due_, -⟩ := setStation_stays s.line n { present := true, misses := 0, last := some [d0, d1, d2] }
    have idle : enterIdle (goodReply n [d0, d1, d2] s) = idled (goodReply n [d0, d1, d2] s) := by
      rw [goodReply_follower _ _ low]
      exact enterIdle_nothing (queue_.trans queue) (due_.trans due) (by simp [polls])
    have taken : takeReply (.bytes [BitVec.ofNat 8 (32 * n + 16), d0, d1, d2, chk]) n s = idled (goodReply n [d0, d1, d2] s) := by
      simp [takeReply, judged, idle]
    refine ⟨_, (execReplyReceived_polled _ receiving good current).trans (congrArg Host.Outcome.next taken), ?_⟩
    rw [goodReply_follower _ _ low]
    refine ⟨?_, rfl, by simp [idled, polls], rfl, rfl⟩
    exact (stationOf_congr n rfl rfl rfl rfl).trans (stationOf_setStation _ _ high)
  · have judged := judge_followerReply low high d0 d1 d2 chk
    rw [if_neg bad] at judged
    have line := missedReply_follower s low
    obtain ⟨-, -, queue_, -, -, noAnswer_, -⟩ := setStation_frame s.line n (missed (stationOf s.line n))
    obtain ⟨due_, -⟩ := setStation_stays s.line n (missed (stationOf s.line n))
    have idle : enterIdle (missedReply n s) = idled (missedReply n s) :=
      enterIdle_nothing (by rw [line]; exact queue_.trans queue) (by rw [line]; exact due_.trans due)
        (by rw [line]; simp [polls])
    have taken : takeReply (.bytes [BitVec.ofNat 8 (32 * n + 16), d0, d1, d2, chk]) n s = idled (missedReply n s) := by
      simp [takeReply, judged, idle]
    have station : stationOf (idled (missedReply n s)).line n = missed (stationOf s.line n) := by
      simp only [idled, line]
      exact (stationOf_congr n rfl rfl rfl rfl).trans (stationOf_setStation _ _ high)
    refine ⟨_, (execReplyReceived_polled _ receiving good current).trans (congrArg Host.Outcome.next taken), ?_⟩
    rw [station]
    exact ⟨missed_misses _, missed_present _, rfl, by simp [idled, line, polls], by simp [idled, line, noAnswer_]⟩
  · refine ⟨_, execReplyWindowTimeout_polled false awaiting current, ?_⟩
    have line := missedReply_follower s low
    obtain ⟨-, -, queue_, -⟩ := setStation_frame s.line n (missed (stationOf s.line n))
    obtain ⟨due_, -⟩ := setStation_stays s.line n (missed (stationOf s.line n))
    obtain ⟨u, hu⟩ : ∃ u : State, u = { missedReply n s with line := { (missedReply n s).line with holdOff := false } } :=
      ⟨_, rfl⟩
    have ul : u.line = { setStation s.line n (missed (stationOf s.line n)) with
        pollList := rest, holdOff := false } := by rw [hu, line, polls]; rfl
    have station : stationOf u.line n = missed (stationOf s.line n) := by
      rw [ul]
      exact (stationOf_congr n rfl rfl rfl rfl).trans (stationOf_setStation _ _ high)
    have uqueue : u.line.queue = [] := by rw [ul]; exact queue_.trans queue
    have udue : u.line.syncDue = false := by rw [ul]; exact due_.trans due
    have upolls : u.line.pollList = rest := by rw [ul]
    have free : u.line.holdOff = false := by rw [ul]
    rw [← hu]
    cases rest with
    | nil =>
      rw [enterIdle_nothing uqueue udue upolls]
      refine ⟨?_, ?_, free, rfl, upolls, fun _ => ⟨rfl, rfl⟩, by simp⟩
      · exact (congrArg Station.misses station).trans (missed_misses _)
      · exact (by rw [show stationOf (idled u).line n = missed (stationOf s.line n) from station]; exact missed_present _)
    | cons m ms =>
      rw [enterIdle_poll free uqueue udue upolls]
      refine ⟨?_, ?_, free, rfl, upolls, by simp, fun m' ms' e => ⟨rfl, ?_⟩⟩
      · exact (congrArg Station.misses station).trans (missed_misses _)
      · exact (by rw [show stationOf (sendFrame (.poll m) (idled u)).line n = missed (stationOf s.line n) from station]; exact missed_present _)
      · cases e
        rfl
  · refine ⟨_, execReplyWindowTimeout_polled true awaiting current, ?_⟩
    have line := missedReply_follower s low
    have stays : enterIdle { missedReply n s with line := { (missedReply n s).line with holdOff := true } } =
        idled { missedReply n s with line := { (missedReply n s).line with holdOff := true } } := chooseFrame_of_holdOff rfl
    rw [stays]
    have station : stationOf (idled { missedReply n s with line := { (missedReply n s).line with holdOff := true } }).line n =
        missed (stationOf s.line n) := by
      simp only [idled, line]
      exact (stationOf_congr n rfl rfl rfl rfl).trans (stationOf_setStation _ _ high)
    exact ⟨(congrArg Station.misses station).trans (missed_misses _), rfl, rfl, rfl, by simp [idled, line]⟩
  · refine ⟨_, congrArg Host.Outcome.next ((if_neg (by simp [idle])).trans ((if_pos ⟨idle, held⟩).trans
      (chooseFrame_poll (s := { s with line := { s.line with holdOff := false } }) idle rfl queue due polls))), rfl, rfl, rfl, rfl⟩

end Sys2Proof.Machine
end

section
/-! PROOFS. A follower's line unit: its reply, the lead's time, broadcast cues, STOP and RESUME. -/

namespace Sys2Proof.Machine

set_option Elab.async false

/-! ### Frames of a follower (R162 to R166) -/

theorem byteSum_five (a b c d e : Byte) : byteSum [a, b, c, d, e] = a + b + c + d + e := by simp [byteSum]

/-- A step of at most 50 ms is not logged (R164). -/
theorem postStep_small {d : Int} (s : State) (low : d ≤ 50) (high : -50 ≤ d) : postStep d s = s :=
  if_neg (by omega)

/-- A LINK cue that STOPPED does not discard joins the queue (R8, R9). -/
theorem postLink_queued {s : State} {k : CueKind} (t16 : Word) (room : s.engine.queue.length < 4)
    (kept : s.engine.runState ≠ .stopped ∨ discardedStopped .link k = false) :
    postLink k t16 s = { s with engine := { s.engine with
      queue := s.engine.queue ++
        [{ source := .link, kind := k, arrival := s.clock.showClock, start := some (localStart t16 s) }] } } := by
  have taken : ¬ (s.engine.runState = .stopped ∧ discardedStopped .link k = true) := fun ⟨stopped, discarded⟩ => by
    rcases kept with running | free
    · exact running stopped
    · exact absurd discarded (by simp [free])
  simp [postLink, postCue, taken, room]

/-- STOPPED discards a LINK cue of the kinds R9 names. -/
theorem postLink_discarded {s : State} {k : CueKind} (t16 : Word) (stopped : s.engine.runState = .stopped)
    (discarded : discardedStopped .link k = true) : postLink k t16 s = s := by
  simp [postLink, postCue, stopped, discarded]

theorem setWidth_signExtend_word (w : Word) : (w.signExtend 32).setWidth 16 = w := by
  refine BitVec.eq_of_getLsbD_eq fun i hi => ?_
  rw [BitVec.getLsbD_setWidth, BitVec.getLsbD_signExtend]
  simp [hi, show i < 32 by omega]

/-- A scheduled start on the lead's clock has the low word the frame carries (R166). -/
theorem localStart_word {s : State} {o : Clock32} (t16 : Word) (held : s.line.syncHeld = true)
    (offset : s.line.offset = some o) : (localStart t16 s + o).setWidth 16 = t16 := by
  simp only [localStart, held, offset]
  rw [BitVec.add_assoc, BitVec.add_comm _ o, ← BitVec.add_assoc, BitVec.setWidth_add _ _ (by omega),
    setWidth_signExtend_word, BitVec.add_comm, BitVec.sub_add_cancel]

/-- A scheduled start lies within 32,768 ms of now (R166). -/
theorem localStart_near {s : State} {o : Clock32} (t16 : Word) (held : s.line.syncHeld = true)
    (offset : s.line.offset = some o) :
    -32768 ≤ (localStart t16 s - s.clock.showClock).toInt ∧ (localStart t16 s - s.clock.showClock).toInt < 32768 := by
  simp only [localStart, held, offset]
  rw [BitVec.add_comm, BitVec.add_sub_cancel, BitVec.toInt_signExtend_of_le (by omega)]
  have low := BitVec.le_toInt (t16 - (s.clock.showClock + o).setWidth 16)
  have high := BitVec.toInt_lt (x := t16 - (s.clock.showClock + o).setWidth 16)
  omega

/-- With no sync held a cue starts on its arrival (R166). -/
theorem localStart_lost {s : State} (t16 : Word) (lost : s.line.syncHeld = false) : localStart t16 s = s.clock.showClock := by
  simp [localStart, lost]

/-- What a good broadcast cue frame becomes (R162, R166). -/
theorem execFollowerBroadcastCue_of_listening {s : State} (f : LinkFrame) (listening_ : s.line.state = .listening) :
    exec (.followerBroadcastCue f) s = .next (takeBroadcast f s) :=
  congrArg Host.Outcome.next (if_pos (by simp [listening, listening_]))

theorem takeBroadcast_cue {n : Word} (t16 : Word) (s : State) (small : n.toNat ≤ 4095) :
    takeBroadcast (.cue n t16) s = postLink (.numbered n) t16 s := if_neg (by omega)

/-- Settles O36: the reply's check byte, the small step, and each broadcast frame as the LINK cue of its kind. -/
theorem followerTakesGoodFrames : Obligations.FollowerTakesGoodFrames := by
  unfold Obligations.FollowerTakesGoodFrames
  refine ⟨fun a s state => ⟨fun own => ?_, fun other => ?_⟩, fun lead here age s state hhere small => ?_,
    ⟨fun f k t16 s state room cases_ => ?_, fun f t16 s state stopped cases_ => ?_, fun n t16 s state big => ?_⟩,
    fun s state => ?_⟩
  · have heard : listening s = true ∧ a.toNat = ownAddress s.path.settings := ⟨by simp [listening, state], own⟩
    have sum := byteSum_withCheck [toByte (32 * a.toNat + 16), toByte s.engine.runState.code,
      slotByte s.transport.slotInGate, toByte (faultSummary s)]
    refine ⟨_, (congrArg Host.Outcome.next (if_pos heard)).trans ?_, (byteSum_five _ _ _ _ _).symm.trans sum⟩
    rw [replyBytes, ← own]
    rfl
  · exact congrArg Host.Outcome.next (if_neg fun heard => other heard.2)
  · have heard : exec (.followerSync lead age) s = .next (takeSync lead (showClockAgo age s) s) :=
      congrArg Host.Outcome.next (if_pos (by simp [listening, state]))
    have same : showClockAgo age s = here := hhere.symm
    rw [heard, same, takeSync]
    cases offset : s.line.offset with
    | none => rfl
    | some o =>
      obtain ⟨low, high⟩ := small o offset
      simp only [postStep_small s low high]
      rfl
  · have posted : takeBroadcast f s = postLink k t16 s ∧
        (s.engine.runState ≠ .stopped ∨ discardedStopped .link k = false) := by
      rcases cases_ with ⟨rfl, rfl⟩ | ⟨rfl, rfl⟩ | ⟨running, ⟨rfl, rfl⟩ | ⟨rfl, rfl⟩ | ⟨n, small, rfl, rfl⟩⟩
      · exact ⟨rfl, .inr rfl⟩
      · exact ⟨rfl, .inr rfl⟩
      · exact ⟨rfl, .inl running⟩
      · exact ⟨rfl, .inl running⟩
      · exact ⟨takeBroadcast_cue t16 s small, .inl running⟩
    obtain ⟨taken, kept⟩ := posted
    refine ⟨localStart t16 s, ?_, fun o held offset => ⟨localStart_word t16 held offset, localStart_near t16 held offset⟩,
      localStart_lost t16⟩
    rw [execFollowerBroadcastCue_of_listening f state, taken, postLink_queued t16 room kept]
  · rw [execFollowerBroadcastCue_of_listening f state]
    refine congrArg Host.Outcome.next ?_
    rcases cases_ with rfl | rfl | ⟨n, small, rfl⟩
    · exact postLink_discarded t16 stopped rfl
    · exact postLink_discarded t16 stopped rfl
    · exact (takeBroadcast_cue t16 s small).trans (postLink_discarded t16 stopped rfl)
  · rw [execFollowerBroadcastCue_of_listening _ state]
    exact congrArg Host.Outcome.next (if_pos big)
  · exact congrArg Host.Outcome.next (if_pos (by simp [listening, state]))

/-! ### STOP and RESUME (R6, R5) -/

theorem broadcasts_follower {s : State} (role : s.line.role = .follower) : broadcasts s = false := by
  simp [broadcasts, role]

/-- A STOP before it reaches the executing cue: the run state, the queue, the deck and the audio (R6). -/
def stopBegun (s : State) : State := fadeAudioOut (deckRequest .stop (clearQueue (setRunState .stopped s)))

theorem stopBegun_engine (s : State) : (stopBegun s).engine = { s.engine with runState := .stopped, queue := [] } := by
  simp [stopBegun, setRunState]

theorem stopBegun_frame (s : State) :
    (stopBegun s).lamp = s.lamp ∧ (stopBegun s).path = s.path ∧ (stopBegun s).line = s.line := by
  simp [stopBegun]

/-- A follower passes no STOP on (R16). -/
theorem requestStop_follower {s : State} (role : s.line.role = .follower) : requestStop s = stopExecuting (stopBegun s) := by
  have line : (stopExecuting (stopBegun s)).line = s.line := by simp [stopBegun]
  exact announce_silent (broadcasts_follower ((congrArg Line.role line).trans role)) _

/-- In WAITING and CHANGING a STOP leaves the lamp as it is (Table 1-6). -/
theorem stopExecuting_lamp_kept {s : State} {e : Executing} (cue : s.engine.cue = some e) (first : e.stopping = false)
    (phase : e.phase = .waiting ∨ e.phase = .changing) : (stopExecuting s).lamp = s.lamp := by
  rcases phase with phase | phase <;> simp [stopExecuting, cue, first, phase]

/-- In a fade a STOP asks the lamp for a ramp to 0 over the stop fade, and a further one in FADING_IN asks again
(Table 1-6). -/
theorem stopExecuting_lamp_faded {s : State} {e : Executing} (cue : s.engine.cue = some e)
    (phase : e.phase = .fadingOut ∧ e.stopping = false ∨ e.phase = .fadingIn) (staying : s.lamp.goingOff = none) :
    (stopExecuting s).lamp.ramp.l1 = 0 ∧ (stopExecuting s).lamp.ramp.n = stopFade s.path.settings ∧
      (stopExecuting s).lamp.ramp.active = true := by
  rcases phase with ⟨phase, first⟩ | phase
  · simp [stopExecuting, cue, first, phase, engineRampUnowned, staying, setRamp]
  · by_cases stopping : e.stopping = true
    · simp [stopExecuting, stopAgain, cue, stopping, phase, engineRampUnowned, staying, setRamp]
    · by_cases cycle : e.cycle = true <;>
        simp [stopExecuting, cue, stopping, phase, cycle, engineRampUnowned, staying, setRamp]

/-- RESUME of a follower held with the tape stopped plays it (R5). -/
theorem requestResume_follower {s : State} (role : s.line.role = .follower) (held : s.engine.runState = .held) :
    (requestResume s).1 = deckRequest .play (setRunState .running s) := by
  have line : (deckRequest .play (setRunState .running s)).line = s.line := by simp
  simp only [requestResume, held, if_true]
  exact announce_silent (broadcasts_follower (by rw [line, role])) _

/-- Settles O37: STOP by the executing cue's phase (Table 1-6), and RESUME by the run state. -/
theorem linkStopAndResumeFrames : Obligations.LinkStopAndResumeFrames := by
  unfold Obligations.LinkStopAndResumeFrames
  refine ⟨fun s state role => ?_, fun s state role held stop => ?_, fun s state notHeld => ?_⟩
  · obtain ⟨lamp, path, line⟩ := stopBegun_frame s
    have begun := stopBegun_engine s
    have cue_ : (stopBegun s).engine.cue = s.engine.cue := by rw [begun]
    have engine := stopExecuting_engine (stopBegun s)
    rw [begun] at engine
    have heard : exec .linkStopFrame s = .next (stopExecuting (stopBegun s)) :=
      (congrArg Host.Outcome.next (if_pos (by simp [listening, state]))).trans (by rw [requestStop_follower role])
    refine ⟨_, heard, by rw [engine], by rw [engine], by rw [engine], by simp [stopBegun], by simp [line], ?_, ?_, ?_, ?_⟩
    · exact fun e cue first waiting =>
        ⟨by simp [engine, cue, first, waiting], (stopExecuting_lamp_kept (cue_.trans cue) first (.inl waiting)).trans lamp⟩
    · intro e cue first fading staying
      obtain ⟨l1, n, -⟩ := stopExecuting_lamp_faded (cue_.trans cue) (.inl ⟨fading, first⟩) (by rw [lamp, staying])
      exact ⟨by simp [engine, cue, first, fading], l1, by rw [n, path]⟩
    · exact fun e cue first changing =>
        ⟨by simp [engine, cue, first, changing], (stopExecuting_lamp_kept (cue_.trans cue) first (.inr changing)).trans lamp⟩
    · intro e cue fading staying
      obtain ⟨l1, n, active⟩ := stopExecuting_lamp_faded (cue_.trans cue) (.inr fading) (by rw [lamp, staying])
      refine ⟨l1, by rw [n, path], active, fun first noCycle => ?_, fun first cycle => ?_, fun again => ?_⟩
      · simp [engine, cue, first, fading, noCycle]
      · exact ⟨{ e with stopping := true, awaiting := false }, by simp [engine, cue, first, fading, cycle], rfl, cycle, fading,
          rfl⟩
      · simp [engine, cue, again]
  · have heard : exec .linkResumeFrame s = .next (deckRequest .play (setRunState .running s)) :=
      (congrArg Host.Outcome.next (if_pos (by simp [listening, state]))).trans (by rw [requestResume_follower role held])
    refine ⟨_, heard, by simp [setRunState], ?_⟩
    simp [deckRequest, setRunState, stop, DeckMode.moving, setDeckMode, decoderFor, decoderPlay, enterHunt]
  · refine congrArg Host.Outcome.next ((if_pos (by simp [listening, state])).trans ?_)
    simp [requestResume, notHeld]

end Sys2Proof.Machine
end

section
/-! PROOFS. The handset logic: what a report records and asks, and what each counted press does. -/

namespace Sys2Proof.Machine

set_option Elab.async false

/-! ### What a report reaches (R168, R176) -/

/-- A report counts a press where its count is new and the last report at most 1 s old (R168). -/
theorem countsPress_eq {s : State} {code second : Byte} {last : Nat} {tm : Clock32} (count : s.handset.lastCount = some last)
    (report : s.handset.lastReport = some tm) :
    countsPress s (some (code, second)) = true ↔ replyCount second ≠ last ∧ elapsed s.clock.showClock tm ≤ 1000 := by
  simp [countsPress, count, report, and_comm]

/-- The state as a counted press leaves it, before the auto-repeat and the focus motor hear of the report. -/
def afterPress (code second : Byte) (s : State) : State :=
  match keyOf code.toNat with
  | some k => pressKey k (recordReport (some (code, second)) s)
  | none => recordReport (some (code, second)) s

theorem handsetReport_of_counted {s : State} {code second : Byte} (counted : countsPress s (some (code, second)) = true) :
    handsetReport (some (code, second)) s =
      focusReport (focusOf (some (code, second))) (repeatAt true (some (code, second)) (afterPress code second s)) := by
  simp only [handsetReport, counted, if_true]
  rfl

/-- The auto-repeat touches its own state and timer alone (R176). -/
theorem repeatAt_handset (pressed : Bool) (r : HandsetReport) (s : State) :
    (repeatAt pressed r s).handset = { s.handset with
      autoRepeat := (repeatAt pressed r s).handset.autoRepeat, holdTimer := (repeatAt pressed r s).handset.holdTimer } := by
  unfold repeatAt
  (repeat' split) <;> rfl

theorem postHandset_handset (k : CueKind) (s : State) :
    (postHandset k s).handset = { s.handset with errTimer := (postHandset k s).handset.errTimer } := by
  have posted : (postCue .handset k none s).1.handset = s.handset := by simp
  unfold postHandset
  dsimp only
  split <;> simp [showErr]

theorem keyGo_handset (s : State) :
    (keyGo s).handset = { s.handset with
      entry := (keyGo s).handset.entry, errTimer := (keyGo s).handset.errTimer } := by
  unfold keyGo
  dsimp only
  split
  · rfl
  · split
    · rfl
    · rw [postHandset_handset]
      rfl

theorem lampOn_handset (s : State) : (lampOn s).1.handset = s.handset := by simp

theorem keyLamp_handset (s : State) :
    (keyLamp s).handset = { s.handset with
      economy := (keyLamp s).handset.economy, errTimer := (keyLamp s).handset.errTimer } := by
  have on_ := lampOn_handset s
  unfold keyLamp
  split
  · dsimp only
    split
    · simp
    · simp [showErr]
  · rfl
  · rfl
  · rfl

/-- No key touches what the report recorded (R168). -/
theorem keyEffect_handset (s : State) (k : Key) :
    (keyEffect s k).handset.lastCount = s.handset.lastCount ∧ (keyEffect s k).handset.lastReport = s.handset.lastReport := by
  cases k with
  | advance => rw [show keyEffect s .advance = postHandset .advance s from rfl, postHandset_handset]; exact ⟨rfl, rfl⟩
  | reverse => rw [show keyEffect s .reverse = postHandset .reverse s from rfl, postHandset_handset]; exact ⟨rfl, rfl⟩
  | focusIn => exact ⟨rfl, rfl⟩
  | focusOut => exact ⟨rfl, rfl⟩
  | go => rw [show keyEffect s .go = keyGo s from rfl, keyGo_handset]; exact ⟨rfl, rfl⟩
  | clear =>
    rw [show keyEffect s .clear = (clearJam (setEntry [] s)).1 from rfl, (clearJam_frame _).2.2.2.2.2.2.2.2.2.2.1]
    exact ⟨rfl, rfl⟩
  | runHold => rw [show keyEffect s .runHold = keyRunHold s from rfl, (keyRunHold_spec s).2]; exact ⟨rfl, rfl⟩
  | lamp => rw [show keyEffect s .lamp = keyLamp s from rfl, keyLamp_handset]; exact ⟨rfl, rfl⟩
  | digit d => exact ⟨rfl, rfl⟩

theorem afterPress_records (code second : Byte) (s : State) :
    (afterPress code second s).handset.lastCount = some (replyCount second) ∧
      (afterPress code second s).handset.lastReport = some s.clock.showClock := by
  unfold afterPress
  split
  · next k _ => exact keyEffect_handset _ k
  · exact ⟨rfl, rfl⟩

/-! ### What each key does (R170 to R175) -/

/-- A counted press as its key begins to act: the report recorded, "Err" gone (R173). -/
def pressBegun (code second : Byte) (s : State) : State :=
  { s with handset := { (recordReport (some (code, second)) s).handset with errTimer := none } }

theorem afterPress_of_key {code second : Byte} {k : Key} (s : State) (key : keyOf code.toNat = some k) :
    afterPress code second s = restartEntryTimer (keyEffect (pressBegun code second s) k) := by
  simp only [afterPress, key]
  rfl

/-- A counted press starts the entry timer afresh over an entry, and stops it without one (R174). -/
theorem afterPress_entryTimer {code second : Byte} (s : State) (key : (keyOf code.toNat).isSome = true) :
    (afterPress code second s).handset.entryTimer =
      if (afterPress code second s).handset.entry = [] then none else some (s.clock.now + 5000000) := by
  obtain ⟨k, key⟩ := Option.isSome_iff_exists.mp key
  rw [afterPress_of_key s key]
  have clock : (keyEffect (pressBegun code second s) k).clock = s.clock := by simp [pressBegun]
  simp only [restartEntryTimer_handset, startTimer, entryTimerUs, clock]

/-- A key that posts a cue, and the entry that GO's leaves (R170, R175). -/
def Posts (code : Byte) (s : State) (k : CueKind) : Prop :=
  (code.toNat = 1 ∧ k = .advance) ∨ (code.toNat = 2 ∧ k = .reverse) ∨
    (code.toNat = 5 ∧ s.handset.entry ≠ [] ∧ entryValue s.handset.entry ≤ traySize s.path.settings ∧
      k = .goto (entryValue s.handset.entry))

/-- A posting key's effect is the posting, from a state that differs in its entry alone (R170, R175). -/
theorem keyEffect_posts {code second : Byte} {s : State} {k : CueKind} (posts : Posts code s k) :
    ∃ key entry, keyOf code.toNat = some key ∧
      keyEffect (pressBegun code second s) key = postHandset k (setEntry entry (pressBegun code second s)) := by
  rcases posts with ⟨hc, rfl⟩ | ⟨hc, rfl⟩ | ⟨hc, some_, inTray, rfl⟩
  · exact ⟨.advance, (pressBegun code second s).handset.entry, by rw [hc]; rfl, rfl⟩
  · exact ⟨.reverse, (pressBegun code second s).handset.entry, by rw [hc]; rfl, rfl⟩
  · refine ⟨.go, [], by rw [hc]; rfl, ?_⟩
    have fits : ¬ traySize (pressBegun code second s).path.settings < entryValue (pressBegun code second s).handset.entry :=
      Nat.not_lt.mpr inTray
    exact (if_neg some_).trans (if_neg fits)

theorem afterPress_posts {code second : Byte} {s : State} {k : CueKind} (posts : Posts code s k) :
    (s.engine.queue.length < 4 → (afterPress code second s).handset.errTimer = none ∧
      (afterPress code second s).engine = { s.engine with
        queue := s.engine.queue ++ [{ source := .handset, kind := k, arrival := s.clock.showClock, start := none }] }) ∧
    (4 ≤ s.engine.queue.length → (afterPress code second s).engine = s.engine ∧
      (afterPress code second s).handset.errTimer = some (s.clock.now + 2000000)) := by
  have free : discardedStopped .handset k = false := by
    rcases posts with ⟨-, rfl⟩ | ⟨-, rfl⟩ | ⟨-, -, -, rfl⟩ <;> rfl
  obtain ⟨key, entry, hkey, effect⟩ := keyEffect_posts (second := second) posts
  obtain ⟨room, full⟩ := postHandset_spec k (setEntry entry (pressBegun code second s)) free
  rw [afterPress_of_key s hkey, effect]
  refine ⟨fun few => ?_, fun many => ?_⟩
  · obtain ⟨handset, engine⟩ := room few
    exact ⟨by rw [restartEntryTimer_handset, handset]; rfl, engine⟩
  · obtain ⟨engine, handset⟩ := full many
    exact ⟨engine, by rw [restartEntryTimer_handset, handset]; rfl⟩

/-- GO empties the entry; with none, or one above S, it posts nothing and shows "Err" (R175). -/
theorem afterPress_go {code second : Byte} (s : State) (hc : code.toNat = 5) :
    (afterPress code second s).handset.entry = [] ∧
      (s.handset.entry = [] ∨ traySize s.path.settings < entryValue s.handset.entry →
        (afterPress code second s).engine = s.engine ∧
          (afterPress code second s).handset.errTimer = some (s.clock.now + 2000000)) := by
  have key : keyOf code.toNat = some .go := by rw [hc]; rfl
  rw [afterPress_of_key s key]
  by_cases none_ : s.handset.entry = []
  · have effect : keyEffect (pressBegun code second s) .go = showErr (pressBegun code second s) := if_pos none_
    rw [effect]
    exact ⟨none_, fun _ => ⟨rfl, rfl⟩⟩
  · by_cases above : traySize s.path.settings < entryValue s.handset.entry
    · have effect : keyEffect (pressBegun code second s) .go = showErr (setEntry [] (pressBegun code second s)) :=
        (if_neg none_).trans (if_pos above)
      rw [effect]
      exact ⟨rfl, fun _ => ⟨rfl, rfl⟩⟩
    · have effect : keyEffect (pressBegun code second s) .go =
          postHandset (.goto (entryValue s.handset.entry)) (setEntry [] (pressBegun code second s)) :=
        (if_neg none_).trans (if_neg above)
      rw [effect]
      exact ⟨by rw [restartEntryTimer_handset, postHandset_handset]; rfl, fun bad => absurd bad (by simp [none_, above])⟩

/-- CLEAR empties the entry and clears a jam (R51, R175). -/
theorem afterPress_clear {code second : Byte} (s : State) (hc : code.toNat = 6) :
    (afterPress code second s).handset.entry = [] ∧ (afterPress code second s).handset.errTimer = none ∧
      (afterPress code second s).transport.state =
        (if s.transport.state = .jammed then .unhomed else s.transport.state) := by
  have key : keyOf code.toNat = some .clear := by rw [hc]; rfl
  rw [afterPress_of_key s key]
  have handset : (keyEffect (pressBegun code second s) .clear).handset = (setEntry [] (pressBegun code second s)).handset :=
    (clearJam_frame _).2.2.2.2.2.2.2.2.2.2.1
  refine ⟨by rw [restartEntryTimer_handset, handset]; rfl, by rw [restartEntryTimer_handset, handset]; rfl, ?_⟩
  show (clearJam (setEntry [] (pressBegun code second s))).1.transport.state = _
  unfold clearJam
  by_cases jam : s.transport.state = .jammed <;> simp [pressBegun, setEntry, jam]

/-- RUN_HOLD moves the run state on (R171). -/
theorem afterPress_runHold {code second : Byte} (s : State) (hc : code.toNat = 7) :
    (afterPress code second s).engine = { s.engine with
        runState := match s.engine.runState with
          | .stopped => .running
          | .running => .held
          | .held => .running
          | .learning => .learning } ∧
      (afterPress code second s).handset.errTimer =
        (if s.engine.runState = .learning then some (s.clock.now + 2000000) else none) := by
  have key : keyOf code.toNat = some .runHold := by rw [hc]; rfl
  rw [afterPress_of_key s key]
  obtain ⟨engine, handset⟩ := keyRunHold_spec (pressBegun code second s)
  exact ⟨engine, by
    rw [restartEntryTimer_handset, show keyEffect (pressBegun code second s) .runHold = keyRunHold (pressBegun code second s) from rfl,
      handset]
    rfl⟩

/-- LAMP_ON reads the lamp, the power state and the clock alone (R60). -/
theorem lampOn_congr {s t : State} (lamp : t.lamp = s.lamp) (power : t.power = s.power) (clock : t.clock = s.clock) :
    (lampOn t).1.lamp = (lampOn s).1.lamp ∧ (lampOn t).2 = (lampOn s).2 := by
  unfold lampOn
  rw [power, lamp]
  split
  · exact ⟨lamp, rfl⟩
  · split
    · exact ⟨lamp, rfl⟩
    · exact ⟨rfl, rfl⟩
    · exact ⟨rfl, rfl⟩
    · split
      · simp
      · split
        · exact ⟨rfl, rfl⟩
        · refine ⟨?_, rfl⟩
          simp [startSwap, startTimer, clock]

/-- LAMP by the lamp's state (R172). -/
theorem afterPress_lamp {code second : Byte} (s : State) (hc : code.toNat = 8) :
    (s.lamp.state = .off → (afterPress code second s).lamp = (lampOn s).1.lamp ∧
      (afterPress code second s).handset.economy = s.handset.economy ∧
      (afterPress code second s).handset.errTimer = (if (lampOn s).2 = true then none else some (s.clock.now + 2000000))) ∧
    (s.lamp.state = .lit ∨ s.lamp.state = .swapping → (afterPress code second s).lamp = s.lamp ∧
      (afterPress code second s).handset.errTimer = none ∧
      (afterPress code second s).handset.economy = !s.handset.economy) ∧
    (s.lamp.state = .fault → (afterPress code second s).lamp = s.lamp ∧
      (afterPress code second s).handset.economy = s.handset.economy ∧
      (afterPress code second s).handset.errTimer = some (s.clock.now + 2000000)) := by
  have key : keyOf code.toNat = some .lamp := by rw [hc]; rfl
  have effect : keyEffect (pressBegun code second s) .lamp = keyLamp (pressBegun code second s) := rfl
  rw [afterPress_of_key s key, effect]
  obtain ⟨lamp, taken⟩ := lampOn_congr (s := s) (t := pressBegun code second s) rfl rfl rfl
  have handset := lampOn_handset (pressBegun code second s)
  have clock : (lampOn (pressBegun code second s)).1.clock = s.clock := by simp [pressBegun]
  refine ⟨fun off => ?_, fun bright => ?_, fun fault => ?_⟩
  · have acts : keyLamp (pressBegun code second s) =
        if (lampOn s).2 = true then (lampOn (pressBegun code second s)).1 else showErr (lampOn (pressBegun code second s)).1 := by
      unfold keyLamp
      rw [show (pressBegun code second s).lamp.state = .off from off]
      simp only [taken]
    rw [acts]
    split
    · exact ⟨lamp, by rw [restartEntryTimer_handset, handset]; rfl, by rw [restartEntryTimer_handset, handset]; rfl⟩
    · refine ⟨lamp, by rw [restartEntryTimer_handset, showErr_handset, handset]; rfl, ?_⟩
      rw [restartEntryTimer_handset, showErr_handset, startTimer, clock]
      rfl
  · rcases bright with lit | swapping
    · simp [keyLamp, pressBegun, lit, recordReport]
    · simp [keyLamp, pressBegun, swapping, recordReport]
  · simp [keyLamp, pressBegun, fault, recordReport, startTimer, twoSeconds]

/-- A digit joins the entry, of which the last three digits are kept (R174). -/
theorem afterPress_digit {code second : Byte} {d : Nat} (s : State) (hc : code.toNat = 10 + d) (digit : d ≤ 9) :
    (afterPress code second s).handset.entry = appendDigit d s.handset.entry := by
  have key : keyOf code.toNat = some (.digit d) := by
    have table : ∀ d ≤ 9, keyOf (10 + d) = some (.digit d) := by decide
    rw [hc]
    exact table d digit
  rw [afterPress_of_key s key]
  rfl

/-! ### The focus motor at a report (R169) -/

/-- With neither focus key held the motor stops (R169). -/
theorem focusReport_none {code second : Byte} (s : State)
    (free : (code.toNat ≠ 3 ∧ code.toNat ≠ 4) ∨ replyHeld second = false) :
    (focusReport (focusOf (some (code, second))) s).transport.focus = .stopped ∧
      (focusReport (focusOf (some (code, second))) s).transport.focusKey = none := by
  have three : code = 3#8 ↔ code.toNat = 3 := by bv_omega
  have four : code = 4#8 ↔ code.toNat = 4 := by bv_omega
  have nobody : focusOf (some (code, second)) = none := by
    rcases free with ⟨not3, not4⟩ | notHeld
    · simp [focusOf, three, four, not3, not4]
    · simp [focusOf, notHeld]
  rw [nobody]
  exact ⟨rfl, rfl⟩

/-- The direction of a focus key held (R169). -/
theorem focusOf_held {code second : Byte} {d : Dir} (held : replyHeld second = true)
    (key : (code.toNat = 3 ∧ d = .forward) ∨ (code.toNat = 4 ∧ d = .reverse)) :
    focusOf (some (code, second)) = some d := by
  rcases key with ⟨hc, rfl⟩ | ⟨hc, rfl⟩
  · have code_ : code = 3 := by bv_omega
    subst code_
    simp [focusOf, held]
  · have code_ : code = 4 := by bv_omega
    subst code_
    simp [focusOf, held]

/-- A new hold runs the motor in ON with no FOCUS_HOLD window active (R54, R55). -/
theorem focusReport_runs {d : Dir} {s : State} (on : s.power.state = .on) (free : focusInhibited s.transport = false)
    (new : s.transport.focusKey ≠ some d) :
    (focusReport (some d) s).transport.focus = focusMotion d ∧ (focusReport (some d) s).transport.focusKey = some d ∧
      (focusReport (some d) s).transport.focusAllowance.due = some (s.clock.now + 4000000) := by
  simp [focusReport, on, free, new, fullAllowance, resumeTimer, focusAllowanceUs]

/-- Without mains, in a FOCUS_HOLD window or with the allowance spent the motor stands (R54, R55). -/
theorem focusReport_stands {d : Dir} {s : State} (barred : s.power.state ≠ .on ∨ focusInhibited s.transport = true ∨
    (s.transport.focusKey = some d ∧ s.transport.focusAllowance = { left := 0, due := none })) :
    (focusReport (some d) s).transport.focus = .stopped := by
  rcases barred with off | window | ⟨same, spent⟩
  · simp [focusReport, off]
  · simp [focusReport, window]
  · simp [focusReport, same, spent]

/-! ### A whole report -/

/-- What an uncounted report reaches: the record, the auto-repeat and the focus motor. -/
theorem handsetReport_uncounted_rest {code second : Byte} {s : State} (uncounted : countsPress s (some (code, second)) = false) :
    (handsetReport (some (code, second)) s).engine = s.engine ∧ (handsetReport (some (code, second)) s).lamp = s.lamp ∧
      (handsetReport (some (code, second)) s).deck = s.deck ∧
      (handsetReport (some (code, second)) s).handset = { s.handset with
        lastCount := some (replyCount second), lastReport := some s.clock.showClock
        report := some (code, replyHeld second)
        autoRepeat := if code.toNat = 1 ∧ replyHeld second = true then s.handset.autoRepeat else .none
        holdTimer := if code.toNat = 1 ∧ replyHeld second = true then s.handset.holdTimer else none } := by
  have one_ : code = 1#8 ↔ code.toNat = 1 := by bv_omega
  rw [handsetReport_of_uncounted uncounted]
  refine ⟨by simp, by simp, by simp, ?_⟩
  by_cases held : code.toNat = 1 ∧ replyHeld second = true <;>
    simp [repeatAt, recordReport, one_, held]

/-- What a counted report leaves of the press: all but the auto-repeat and the focus motor. -/
theorem handsetReport_counted_rest {code second : Byte} {s : State} (counted : countsPress s (some (code, second)) = true) :
    (handsetReport (some (code, second)) s).engine = (afterPress code second s).engine ∧
      (handsetReport (some (code, second)) s).lamp = (afterPress code second s).lamp ∧
      (handsetReport (some (code, second)) s).transport.state = (afterPress code second s).transport.state ∧
      (handsetReport (some (code, second)) s).handset = { (afterPress code second s).handset with
        autoRepeat := if code.toNat = 1 ∧ replyHeld second = true then .timing else .none
        holdTimer := if code.toNat = 1 ∧ replyHeld second = true then some (s.clock.now + 1000000) else none } := by
  have one_ : code = 1#8 ↔ code.toNat = 1 := by bv_omega
  have clock : (afterPress code second s).clock = s.clock := by
    unfold afterPress
    split <;> simp
  have focus (r : FocusReport) (u : State) : (focusReport r u).transport.state = u.transport.state := by
    unfold focusReport
    dsimp only
    (repeat' split) <;> rfl
  rw [handsetReport_of_counted counted]
  refine ⟨by simp, by simp, by simp [focus], ?_⟩
  by_cases held : code.toNat = 1 ∧ replyHeld second = true <;>
    simp [repeatAt, one_, held, startTimer, oneSecond, clock]

/-- The focus motor hears of a report in the transport that the press leaves. -/
theorem handsetReport_focus (code second : Byte) (s : State) :
    ∃ u, handsetReport (some (code, second)) s = focusReport (focusOf (some (code, second))) u ∧
      ((code.toNat = 3 ∨ code.toNat = 4) → u.transport = s.transport) ∧ u.power = s.power ∧ u.clock = s.clock := by
  cases counted : countsPress s (some (code, second)) with
  | false => exact ⟨_, handsetReport_of_uncounted counted, by simp, by simp, by simp⟩
  | true =>
    refine ⟨_, handsetReport_of_counted counted, fun key => ?_, ?_, ?_⟩
    · rcases key with hc | hc <;> simp [afterPress, hc, keyOf, pressKey, keyEffect]
    · simp only [repeatAt_frame]
      unfold afterPress
      split <;> simp
    · simp only [repeatAt_frame]
      unfold afterPress
      split <;> simp

/-- A good reply of the handset is a report, and then the lead makes its next choice (R160, R168). -/
theorem execReplyReceived_handset {code second chk : Byte} {s : State} (receiving : s.line.state = .receiving)
    (good : s.line.badFrame = false) (current : s.line.current = some (.poll 0))
    (sum : byteSum [0x10, code, second, chk] = 0) :
    ∃ l t, exec (.replyReceived (.bytes [0x10, code, second, chk])) s = .next t ∧
      t.handset = (handsetReport (some (code, second)) { s with line := l }).handset ∧
      t.transport = (handsetReport (some (code, second)) { s with line := l }).transport ∧
      t.engine = (handsetReport (some (code, second)) { s with line := l }).engine ∧
      t.lamp = (handsetReport (some (code, second)) { s with line := l }).lamp ∧
      t.deck = (handsetReport (some (code, second)) { s with line := l }).deck := by
  have judged : judge (.bytes [0x10, code, second, chk]) = .good 0 16 [code, second] := by
    show (if [code, second, chk].length ≠ 2 + 1 then Judgement.framing
      else if byteSum [0x10, code, second, chk] ≠ 0 then .check else .good 0 16 [code, second]) = _
    rw [if_neg (by simp), if_neg (not_not.mpr sum)]
  have taken : takeReply (.bytes [0x10, code, second, chk]) 0 s = enterIdle (goodReply 0 [code, second] s) := by
    rw [takeReply, judged]
    exact if_pos ⟨rfl, rfl⟩
  obtain ⟨l, report⟩ : ∃ l, goodReply 0 [code, second] s = handsetReport (some (code, second)) { s with line := l } := ⟨_, rfl⟩
  refine ⟨l, _, (execReplyReceived_polled _ receiving good current).trans (congrArg Host.Outcome.next taken), ?_⟩
  rw [report]
  simp

theorem postHandset_queued {k : CueKind} {s : State} (kept : discardedStopped .handset k = false)
    (room : s.engine.queue.length < 4) :
    postHandset k s = { s with engine := { s.engine with
      queue := s.engine.queue ++ [{ source := .handset, kind := k, arrival := s.clock.showClock, start := none }] } } := by
  rcases postCue_cases .handset k none s with ⟨-, discarded, -⟩ | ⟨-, queued⟩ | ⟨full, -⟩
  · simp [kept] at discarded
  · rw [postHandset, queued]
  · omega

/-- Settles O39: the timers, the digits, and each key of a counted press by what it does to the report's state. -/
theorem handsetTimersAndDigits : Obligations.HandsetTimersAndDigits := by
  unfold Obligations.HandsetTimersAndDigits
  refine ⟨⟨?_, ?_, ?_, ?_⟩, ?_, ?_⟩
  · exact fun s => rfl
  · exact fun s timer => congrArg Host.Outcome.next (if_pos timer)
  · exact fun s timing notReady => congrArg Host.Outcome.next ((if_pos timing).trans (if_neg notReady))
  · intro s timing ready room
    exact congrArg Host.Outcome.next ((if_pos timing).trans ((if_pos ready).trans (postHandset_queued rfl room)))
  · intro code second d last t s hc digit count report short
    refine ⟨fun new recent => ?_, fun old => ?_⟩
    · have counted := (countsPress_eq (code := code) count report).mpr ⟨new, recent⟩
      obtain ⟨-, -, -, handset⟩ := handsetReport_counted_rest counted
      rw [handset]
      refine (afterPress_digit s hc digit).trans ?_
      unfold appendDigit
      by_cases full : s.handset.entry.length = 3
      · simp [full]
      · simp [full, show ¬ 3 ≤ s.handset.entry.length by omega]
    · have uncounted : countsPress s (some (code, second)) = false := by
        rw [← Bool.not_eq_true, countsPress_eq count report]
        omega
      obtain ⟨-, -, -, handset⟩ := handsetReport_uncounted_rest uncounted
      rw [handset]
  · intro code second chk last tm s receiving good current sum count report
    obtain ⟨l, t, taken, handset, transport, engine, lamp, deck⟩ := execReplyReceived_handset receiving good current sum
    obtain ⟨u, hu⟩ : ∃ u : State, u = { s with line := l } := ⟨_, rfl⟩
    have clock : u.clock = s.clock := by rw [hu]
    have power : u.power = s.power := by rw [hu]
    have engine_ : u.engine = s.engine := by rw [hu]
    have lamp_ : u.lamp = s.lamp := by rw [hu]
    have deck_ : u.deck = s.deck := by rw [hu]
    have transport_ : u.transport = s.transport := by rw [hu]
    have handset_ : u.handset = s.handset := by rw [hu]
    have path_ : u.path = s.path := by rw [hu]
    rw [← hu] at handset transport engine lamp deck
    clear hu
    refine ⟨t, taken, ?_⟩
    rw [handset, transport, engine, lamp, deck]
    have counts : countsPress u (some (code, second)) = true ↔ replyCount second ≠ last ∧ elapsed s.clock.showClock tm ≤ 1000 := by
      rw [← clock]
      exact countsPress_eq (handset_ ▸ count) (handset_ ▸ report)
    obtain ⟨v, focused, key34, vpower, vclock⟩ := handsetReport_focus code second u
    have record : (handsetReport (some (code, second)) u).handset.lastCount = some (replyCount second) ∧
        (handsetReport (some (code, second)) u).handset.lastReport = some s.clock.showClock := by
      cases counted : countsPress u (some (code, second)) with
      | false =>
        obtain ⟨-, -, -, rest⟩ := handsetReport_uncounted_rest counted
        rw [rest]
        exact ⟨rfl, by rw [clock]⟩
      | true =>
        obtain ⟨-, -, -, rest⟩ := handsetReport_counted_rest counted
        rw [rest]
        obtain ⟨lastCount, lastReport⟩ := afterPress_records code second u
        exact ⟨lastCount, lastReport.trans (by rw [clock])⟩
    refine ⟨record.1, record.2, fun free => ?_, fun d held key => ?_, fun old => ?_, fun new recent => ?_⟩
    · rw [focused]
      exact focusReport_none v free
    · have same : v.transport = s.transport := (key34 (key.imp (fun h => h.1) (fun h => h.1))).trans transport_
      rw [focused, focusOf_held held key]
      refine ⟨fun on free other => ?_, fun barred => ?_⟩
      · have runs := focusReport_runs (d := d) (s := v) (by rw [vpower, power]; exact on) (by rw [same]; exact free)
          (by rw [same]; exact other)
        rwa [vclock, clock] at runs
      · exact focusReport_stands (by rw [vpower, power, same]; exact barred)
    · have uncounted : countsPress u (some (code, second)) = false := by
        rw [← Bool.not_eq_true, counts]
        omega
      obtain ⟨e, la, de, rest⟩ := handsetReport_uncounted_rest uncounted
      rw [rest, handset_]
      exact ⟨e.trans engine_, la.trans lamp_, de.trans deck_, rfl, rfl, rfl, rfl⟩
    · have counted := counts.mpr ⟨new, recent⟩
      obtain ⟨e, la, tr, rest⟩ := handsetReport_counted_rest counted
      rw [rest, e, la, tr, clock]
      have timer := afterPress_entryTimer (code := code) (second := second) u
      have lampOn_ := lampOn_congr lamp_ power clock
      have posts := fun k => afterPress_posts (code := code) (second := second) (s := u) (k := k)
      have go := afterPress_go (code := code) (second := second) u
      have clear_ := afterPress_clear (code := code) (second := second) u
      have runHold := afterPress_runHold (code := code) (second := second) u
      have lampKey := afterPress_lamp (code := code) (second := second) u
      rw [lampOn_.1, lampOn_.2] at lampKey
      simp only [Posts, clock, engine_, handset_, path_, transport_, lamp_] at timer posts go clear_ runHold lampKey
      exact ⟨timer, posts, go, clear_, runHold, lampKey, rfl, rfl⟩

end Sys2Proof.Machine
end

section
/-! PROOFS. The memory path byte by byte: the commands that open a transaction, data bytes of a READ and of a WRITE. -/

namespace Sys2Proof.Machine

set_option Elab.async false

/-! ### Opening a transaction (R181, R182) -/

/-- Between transactions the link is free, and nothing that passed is left to end. -/
theorem startTxn_of_free {s : State} (free : s.path.txn = none) (f : State → State) : startTxn f s = f s := by
  have shadow : latchAfter s = s.path.latch := by simp [latchAfter, free]
  have ended : endPassed s = s := by rw [endPassed, shadow]
  simp [startTxn, linkFree, free, ended]

/-- The two address bytes spell the address (R181). -/
theorem addressPhase_bytes (a : Word) : addressPhase [(a >>> 8).setWidth 8, a.setWidth 8] = .full a := by
  refine congrArg AddrPhase.full (BitVec.eq_of_getLsbD_eq fun i hi => ?_)
  rw [BitVec.getLsbD_append]
  split
  next low => simp [low]
  next high => simp [show i - 8 < 8 by omega, show 8 + (i - 8) = i by omega]

theorem linkCommand_unrecognised {b : Byte} (unknown : recognisedCommand b = false) : linkCommand b = .foreign := by
  revert b
  decide

/-- A transaction that passes is closed at its end, and nothing else happens (R181, R200). -/
theorem transactionEnd_passing {x : Txn} {s : State} (txn : s.path.txn = some x) (passing : x.kind = .passing) :
    exec .transactionEnd s = .next (closeTxn s) := by
  refine congrArg Host.Outcome.next ?_
  rw [txn]
  simp only [passing]

/-- SET LATCH and CLEAR LATCH act on the latch shadow at their end (R182). -/
theorem transactionEnd_latching {x : Txn} {s : State} {b : Bool} (txn : s.path.txn = some x) (latching : x.kind = .latching b) :
    exec .transactionEnd s = .next { s with path := { s.path with txn := none, legOpen := false, latch := b } } := by
  have shadow : latchAfter s = b := by simp [latchAfter, txn, latching]
  have ended : execTransactionEnd s = .next (closeTxn (endPassed s)) := by simp [execTransactionEnd, txn, latching]
  refine ended.trans ?_
  rw [endPassed, shadow]
  rfl

/-- Settles O40: the address phase's bytes, each command between transactions, and the end of one that passes. -/
theorem linkCommandsOpenTransactions : Obligations.LinkCommandsOpenTransactions := by
  unfold Obligations.LinkCommandsOpenTransactions
  refine ⟨⟨fun a => ?_, fun hi => ⟨rfl, rfl⟩, rfl, rfl, fun rest => ⟨rfl, rfl, rfl⟩, fun b rest unknown => ?_,
    fun a s free cut => ?_⟩, fun x s txn passing => transactionEnd_passing txn passing, fun s free => ?_⟩
  · exact ⟨congrArg (fun p => some (Instr.read p)) (addressPhase_bytes a),
      congrArg (fun p => some (Instr.write p)) (addressPhase_bytes a)⟩
  · simp only [linkStart, linkCommand_unrecognised unknown]
  · have read : exec (.read a) s = .next (startRead a s) := congrArg Host.Outcome.next (startTxn_of_free free (startRead a))
    have write : exec (.write a) s = .next (startWrite a s) :=
      congrArg Host.Outcome.next (startTxn_of_free free (startWrite a))
    refine ⟨startRead a s, startWrite a s, read, ?_⟩
    rcases cut with rfl | ⟨hi, rfl⟩
    · exact ⟨rfl, rfl, rfl, write, rfl, rfl, rfl⟩
    · exact ⟨rfl, rfl, rfl, write, rfl, rfl, rfl⟩
  · have starts : ∀ f, (.next (startTxn f s) : Host.Outcome State Fault Refusal) = .next (f s) := fun f =>
      congrArg Host.Outcome.next (startTxn_of_free free f)
    refine ⟨fun a => ?_, fun a => ?_, ?_, ?_, ?_, fun b unknown => ?_, rfl⟩
    · exact ⟨_, _, starts (startRead (.full a)), rfl, rfl, rfl, rfl, rfl, rfl, rfl⟩
    · exact ⟨_, _, starts (startWrite (.full a)), rfl, rfl, rfl, rfl, rfl, rfl, rfl⟩
    · exact ⟨_, starts (passCommand (.latching true) 0x06), rfl, rfl, rfl, transactionEnd_latching rfl rfl⟩
    · exact ⟨_, starts (passCommand (.latching false) 0x04), rfl, rfl, rfl, transactionEnd_latching rfl rfl⟩
    · exact ⟨_, starts (passCommand .passing 0x05), rfl, rfl, rfl⟩
    · have byte : startByte b s = passCommand .passing b s := by simp only [startByte, linkCommand_unrecognised unknown]
      exact ⟨_, _, (starts (startByte b)).trans (congrArg Host.Outcome.next byte), rfl, rfl, rfl, rfl, rfl⟩

/-! ### Data bytes of a READ (R193) -/

theorem exec_readDataByte {p : Snapshot} {x : Txn} {s : State} (m : Byte) (txn : s.path.txn = some x) (read : x.kind = .read p) :
    exec (.readDataByte m) s = .next (readByte p x m s) := by
  refine congrArg Host.Outcome.next ?_
  rw [txn]
  simp only [read]

/-- Whether the live record of byte `o` was LOADED in the snapshot (Table 9-5). -/
theorem loadedIn_recordAt (p : Snapshot) (o : Nat) :
    loadedIn p (recordAt o) = if o < 8 then p.showLoaded else if o < 20 then p.usageLoaded else p.tapeLoaded := by
  unfold recordAt
  split
  · rfl
  · split <;> rfl

/-- A byte of the log view by Table 11-8 (R199). -/
theorem logViewByte_eq (es : List LogEntry) (o : Nat) :
    some (logViewByte es o) = match es[o / 16]? with
      | none => some 0xFF
      | some e =>
        [e.sequence.setWidth 8, (e.sequence >>> 8).setWidth 8, toByte e.kind.code, toByte e.source.code,
         e.time.setWidth 8, (e.time >>> 8).setWidth 8, (e.time >>> 16).setWidth 8, (e.time >>> 24).setWidth 8,
         e.cueNo.setWidth 8, (e.cueNo >>> 8).setWidth 8, e.slot, e.detail1.setWidth 8, (e.detail1 >>> 8).setWidth 8,
         e.detail2.setWidth 8, (e.detail2 >>> 8).setWidth 8, 0][o % 16]? := by
  unfold logViewByte
  cases es[o / 16]? with
  | none => rfl
  | some e =>
    have inside : o % 16 < (entryBytes e).length := Nat.mod_lt _ (by decide)
    have listed := List.getElem?_eq_getElem inside
    simp only [listed, Option.getD_some]
    exact listed.symm

/-- What the host reads of the window is the snapshot's, whatever the memory answers (R193). -/
theorem readByte_window {p : Snapshot} {x : Txn} {s : State} (window : (addrClass s.path.map x.addr.toNat).isWindow = true)
    (m m' : Byte) : readByte p x m' s = readByte p x m s := by
  unfold readByte
  cases class_ : addrClass s.path.map x.addr.toNat <;> simp_all [AddrClass.isWindow]

/-- Settles O41: one case per address class. -/
theorem readBytesByClass : Obligations.ReadBytesByClass := by
  unfold Obligations.ReadBytesByClass
  intro p x m s txn read
  have taken := fun m => exec_readDataByte m txn read
  have byte : ∀ {c}, addrClass s.path.map x.addr.toNat = c → exec (.readDataByte m) s = .next (readByte p x m s) :=
    fun _ => taken m
  refine ⟨fun o h => ?_, fun h => ?_, fun h => ?_, fun o h wf => ?_, fun o h wf => ?_, fun o h wf => ?_,
    fun o h => ⟨fun loaded => ?_, fun fresh => ?_⟩, fun o h => ?_, fun o h => ?_, fun window => ?_⟩
  · rw [taken, readByte, h]
    rfl
  · rw [taken, readByte, h]
    rfl
  · rw [taken, readByte, h]
    rfl
  · refine ⟨captureByte s.path.header o m, captureByte_spec _ _ _ wf, ?_⟩
    rw [taken, readByte, h]
    rfl
  · refine ⟨captureByte s.path.program o m, captureByte_spec _ _ _ wf, ?_⟩
    rw [taken, readByte, h]
    rfl
  · refine ⟨captureByte s.path.mirror o m, assocSet x.settingsSeen o (), captureByte_spec _ _ _ wf,
      fun k => assocHas_set _ _ _ _, ?_⟩
    rw [taken, readByte, h]
    rfl
  · rw [← loadedIn_recordAt] at loaded
    rw [taken, readByte, h]
    simp only [loaded, if_true]
    rfl
  · rw [← loadedIn_recordAt] at fresh
    refine ⟨assocSet x.live o m, fun k => ?_, ?_⟩
    · rw [assocGet_set]
      simp only [eq_comm]
    · rw [taken, readByte, h]
      simp only [fresh, Bool.false_eq_true, if_false]
      rfl
  · rw [taken, readByte, h]
    rfl
  · refine ⟨assocSet x.logRead o (), fun k => assocHas_set _ _ _ _, ?_⟩
    have shown : readByte p x m s = sendUp (logViewByte p.log o) (setTxn { nextAddr x with logRead := assocSet x.logRead o () } s) := by
      rw [readByte, h]
    refine (taken m).trans (congrArg Host.Outcome.next (shown.trans ?_))
    exact congrArg (fun u => { s with path := { s.path with
      txn := some { x with addr := x.addr + 1, logRead := assocSet x.logRead o () }, upOut := u } }) (logViewByte_eq p.log o)
  · exact ⟨_, taken m, fun m' => (taken m').trans (congrArg Host.Outcome.next (readByte_window window m m'))⟩

/-! ### Data bytes of a latched WRITE (R190) -/

theorem exec_writeDataByte_latched {x : Txn} {s : State} (b : Byte) (txn : s.path.txn = some x) (write : x.kind = .write true) :
    exec (.writeDataByte b) s = .next (writeByte x b s) := by
  refine congrArg Host.Outcome.next ?_
  rw [txn]
  simp only [write]

/-- A byte held back changes the transaction alone (R190). -/
theorem absorb_txn (c : AddrClass) (b : Byte) (x : Txn) (s : State) : ∃ y, absorb c b x s = setTxn y s := by
  unfold absorb
  split <;> exact ⟨_, rfl⟩

/-- Settles O42: a declined byte ends the leg, one after the leg's end is held back, a program byte passes captured. -/
theorem writeBytesDeclinedOrCaptured : Obligations.WriteBytesDeclinedOrCaptured := by
  unfold Obligations.WriteBytesDeclinedOrCaptured
  refine ⟨fun b x s txn write => ⟨fun open_ declined => ?_, fun closed => ?_⟩, fun b o x s txn write open_ class_ free wf => ?_⟩
  · have byte : writeByte x b s = absorb (addrClass s.path.map x.addr.toNat) b x
        (endLeg { s with path := { s.path with declined := satInc 255 s.path.declined } }) := by
      simp [writeByte, open_, declined]
    obtain ⟨y, held⟩ := absorb_txn (addrClass s.path.map x.addr.toNat) b x
      (endLeg { s with path := { s.path with declined := satInc 255 s.path.declined } })
    refine ⟨_, (exec_writeDataByte_latched b txn write).trans (congrArg Host.Outcome.next (byte.trans held)), ?_⟩
    exact ⟨rfl, rfl, rfl, rfl, rfl, rfl, rfl⟩
  · have byte : writeByte x b s = absorb (addrClass s.path.map x.addr.toNat) b x s := by simp [writeByte, closed]
    obtain ⟨y, held⟩ := absorb_txn (addrClass s.path.map x.addr.toNat) b x s
    refine ⟨_, (exec_writeDataByte_latched b txn write).trans (congrArg Host.Outcome.next (byte.trans held)), ?_⟩
    exact ⟨rfl, closed, rfl, rfl⟩
  · have byte : writeByte x b s = forward b (capture (.program o) b (nextAddr x) s) := by
      simp [writeByte, open_, class_, declines, free]
    obtain ⟨copied, marked, others⟩ := captureByte_spec s.path.program o b wf
    refine ⟨_, (exec_writeDataByte_latched b txn write).trans (congrArg Host.Outcome.next byte), ?_⟩
    exact ⟨rfl, copied, marked, others, rfl, rfl, rfl, rfl⟩

end Sys2Proof.Machine
end

section
/-! PROOFS. The end of a transaction: the steps of R200 that find nothing to do, the log's consumption, the acknowledgement. -/

namespace Sys2Proof.Machine

set_option Elab.async false

/-! ### Steps that find nothing to do (R200) -/

/-- The state in which a READ or a latched WRITE of kind `k` closes: the shadow is clear after the WRITE (R182). -/
def closed (k : TxnKind) (s : State) : State :=
  { s with path := { s.path with
      txn := none, legOpen := false, latch := if k = .write true then false else s.path.latch } }

theorem closed_read (p : Snapshot) (s : State) : closeTxn s = closed (.read p) s := by
  simp [closeTxn, closed]

theorem closed_write (s : State) : endLeg (closeTxn s) = closed (.write true) s := by
  simp [closeTxn, endLeg, closed]

theorem transactionEnd_read {x : Txn} {p : Snapshot} {s : State} (txn : s.path.txn = some x) (read : x.kind = .read p) :
    exec .transactionEnd s = .next (finishRead p x (closed x.kind s)) := by
  have ended : execTransactionEnd s = .next (finishRead p x (closeTxn s)) := by simp only [execTransactionEnd, txn, read]
  rw [read, ← closed_read]
  exact ended

theorem transactionEnd_write {x : Txn} {s : State} (txn : s.path.txn = some x) (write : x.kind = .write true) :
    exec .transactionEnd s = .next (finishWrite x (closed x.kind s)) := by
  have ended : execTransactionEnd s = .next (finishWrite x (endLeg (closeTxn s))) := by
    simp only [execTransactionEnd, txn, write]
  rw [write, ← closed_write]
  exact ended

theorem validateHeader_untouched {x : Txn} (s : State) (untouched : x.headerTouched = false) : validateHeader x s = s := by
  simp [validateHeader, untouched]

/-- With no settings byte seen and the block complete no sooner than at the start, the settings in force stay (R188). -/
theorem newSettings_unseen {x : Txn} {s : State} (unseen : x.settingsSeen = [])
    (incomplete : x.wasComplete = false → settingsComplete s = false) : newSettings x s = s.path.settings := by
  unfold newSettings
  cases complete : x.wasComplete with
  | true => simp [unseen, replaceBytes]
  | false => simp [incomplete complete]

/-- With the settings as they were and the line in their role no owner acts (R29, R144, R161). -/
theorem settingsActions_unchanged {s : State} (role : lineRole s.path.settings = s.line.role) :
    settingsActions s.path.settings s = s := by
  simp [settingsActions, role]

theorem updateSettings_unseen {x : Txn} {s : State} (unseen : x.settingsSeen = [])
    (incomplete : x.wasComplete = false → settingsComplete s = false) (role : lineRole s.path.settings = s.line.role) :
    updateSettings x s = s := by
  have same : { s with path := { s.path with settings := newSettings x s } } = s := by
    rw [newSettings_unseen unseen incomplete]
  rw [updateSettings, same, settingsActions_unchanged role]

/-- Without its key nothing lists it. -/
theorem assocHasAll_false {α : Type} {m : Assoc α} {lo n o : Nat} (low : lo ≤ o) (high : o < lo + n) (free : assocHas m o = false) :
    assocHasAll m lo n = false := by
  rw [← Bool.not_eq_true, assocHasAll_iff]
  exact fun all => absurd (all o low high) (by simp [free])

theorem assocHasAny_false {α : Type} {m : Assoc α} {lo n : Nat} (free : ∀ o, lo ≤ o → o < lo + n → assocHas m o = false) :
    assocHasAny m lo n = false := by
  rw [← Bool.not_eq_true, assocHasAny_iff]
  rintro ⟨o, low, high, has⟩
  simp [free o low high] at has

/-- A record whose bytes were not all read is not loaded (R194). -/
theorem finishLoad_partial {m : Assoc Byte} {r : LiveRecord} (s : State) (part : assocHasAll m r.first r.length = false) :
    finishLoad m r s = s := by
  simp [finishLoad, part]

/-- A record of which no byte was written is neither applied nor counted (R195). -/
theorem finishApply_none {m : Assoc Byte} {r : LiveRecord} (s : State)
    (free : ∀ o, r.first ≤ o → o < r.first + r.length → assocHas m o = false) : finishApply m r s = s := by
  have part : assocHasAll m r.first r.length = false := by
    have first : r.first < r.first + r.length := by cases r <;> decide
    exact assocHasAll_false (Nat.le_refl _) first (free _ (Nat.le_refl _) first)
  simp [finishApply, part, assocHasAny_false free]

theorem assocHas_nil {α : Type} (o : Nat) : assocHas ([] : Assoc α) o = false := rfl

theorem finishLoad_nil (r : LiveRecord) (s : State) : finishLoad [] r s = s := by
  have first : r.first < r.first + r.length := by cases r <;> decide
  exact finishLoad_partial s (assocHasAll_false (Nat.le_refl _) first (assocHas_nil _))

theorem finishApply_nil (r : LiveRecord) (s : State) : finishApply [] r s = s :=
  finishApply_none s fun o _ _ => assocHas_nil o

theorem finishAcknowledge_half {x : Txn} (s : State)
    (half : assocHas x.absorbed 0xFF9A = false ∨ assocHas x.absorbed 0xFF9B = false) : finishAcknowledge x s = s := by
  simp only [assocHas, Option.isSome_eq_false_iff, Option.isNone_iff_eq_none] at half
  unfold finishAcknowledge
  rcases half with lo | hi
  · rw [lo]
  · rw [hi]
    split
    · rename_i wrong
      cases wrong
    · rfl

theorem finishRequest_partial {x : Txn} {o : Nat} (s : State) (low : 0xFFA0 ≤ o) (high : o < 0xFFA8)
    (free : assocHas x.absorbed o = false) : finishRequest x s = s := by
  simp [finishRequest, assocHasAll_false low (show o < 0xFFA0 + 8 by omega) free]

/-- With no byte absorbed the write ends with the map, the settings and the records. -/
theorem finishWrite_unabsorbed {x : Txn} (s : State) (absorbed : x.absorbed = []) :
    finishWrite x s = finishApply x.live .tape (finishApply x.live .lampUsage (finishApply x.live .showPosition
      (updateSettings x (validateHeader x s)))) := by
  rw [finishWrite, finishAcknowledge_half _ (.inl (by rw [absorbed]; rfl)),
    finishRequest_partial _ (Nat.le_refl _) (by omega) (by rw [absorbed]; rfl)]

/-! ### Consumption (R199, R205) -/

theorem consume_nil (es : List LogEntry) : consume [] es = es := by
  cases es <;> simp [consume]

/-- With no byte of the log view read nothing is consumed. -/
theorem finishConsume_unread {x : Txn} (p : Snapshot) (s : State) (unread : x.logRead = []) : finishConsume p x s = s := by
  have none_ : ∀ k n, fullyRead ([] : Assoc Unit) k n = 0 := fun k n => by
    cases n with
    | zero => rfl
    | succ n => simp [fullyRead, assocHasAll_false (Nat.le_refl (16 * k)) (show 16 * k < 16 * k + 16 by omega) (assocHas_nil _)]
  simp [finishConsume, unread, none_, consume_nil]

/-- With the first `16 n` bytes of the view read, the entries read in full are those before the `n`-th (R199). -/
theorem fullyRead_eq {m : Assoc Unit} {n : Nat} (read : ∀ o, assocHas m o = true ↔ o < 16 * n) :
    ∀ count k, fullyRead m k count = min count (n - k) := by
  intro count
  induction count with
  | zero => intro k; simp [fullyRead]
  | succ count ih =>
    intro k
    by_cases inside : k < n
    · have all : assocHasAll m (16 * k) 16 = true := (assocHasAll_iff _ _ _).mpr fun o _ high => (read o).mpr (by omega)
      simp only [fullyRead, all, if_true, ih]
      omega
    · have part : assocHasAll m (16 * k) 16 = false := by
        refine assocHasAll_false (Nat.le_refl _) (by omega) ?_
        rw [← Bool.not_eq_true, read]
        omega
      simp only [fullyRead, part, Bool.false_eq_true, if_false]
      omega

theorem consume_append {run : List Word} {front : List LogEntry} (rest : List LogEntry)
    (listed : ∀ e ∈ front, e.sequence ∈ run) : consume run (front ++ rest) = consume run rest := by
  induction front with
  | nil => rfl
  | cons e front ih =>
    have mem : run.contains e.sequence = true := List.contains_iff_mem.mpr (listed e List.mem_cons_self)
    simp only [List.cons_append, consume, mem, if_true]
    exact ih fun e h => listed e (List.mem_cons_of_mem _ h)

/-- The run of the first `n` sequence numbers takes the first `n` entries and no other (R205). -/
theorem consume_front {s : State} (log : LogSequential s) {n : Nat} (inside : n ≤ s.log.ring.length) :
    consume ((s.log.ring.take n).map LogEntry.sequence) s.log.ring = s.log.ring.drop n := by
  have numbers := (numbers_iff _ _).mp log.numbers
  have size := log.size
  have front := consume_append (run := (s.log.ring.take n).map LogEntry.sequence) (front := s.log.ring.take n)
    (s.log.ring.drop n) (fun e h => List.mem_map_of_mem h)
  rw [List.take_append_drop] at front
  rw [front]
  cases rest : s.log.ring.drop n with
  | nil => rfl
  | cons e es =>
    have at_n : s.log.ring[n]? = some e := by
      have := congrArg (fun l => l[0]?) rest
      simpa using this
    have outside : e.sequence ∉ (s.log.ring.take n).map LogEntry.sequence := fun mem => by
      obtain ⟨e', listed, same⟩ := List.mem_map.mp mem
      obtain ⟨i, high, at_i⟩ := List.mem_iff_getElem.mp listed
      have small : i < n := by simp at high; omega
      have at_i' : s.log.ring[i]? = some e' := by
        rw [← at_i, List.getElem_take, List.getElem?_eq_getElem]
      have bound : n < s.log.ring.length := (List.getElem?_eq_some_iff.mp at_n).1
      rw [numbers n e at_n, numbers i e' at_i'] at same
      have offsets := sub_right_inj.mp same
      have := congrArg BitVec.toNat offsets
      simp only [BitVec.toNat_ofNat] at this
      omega
    exact if_neg fun mem => outside (List.contains_iff_mem.mp mem)

/-- Settles O44: every step but the consumption finds nothing to do. -/
theorem readConsumesLogEntries : Obligations.ReadConsumesLogEntries := by
  unfold Obligations.ReadConsumesLogEntries
  intro x p n s txn read log view inside untouched unseen live logRead complete role
  rw [transactionEnd_read txn read]
  refine congrArg Host.Outcome.next ?_
  have settled : updateSettings x (validateHeader x (closed x.kind s)) = closed x.kind s := by
    rw [validateHeader_untouched _ untouched]
    exact updateSettings_unseen unseen (fun no => complete.symm.trans no) role
  have count : fullyRead x.logRead 0 p.log.length = n := by rw [fullyRead_eq logRead]; omega
  have bound : n ≤ s.log.ring.length := by rw [view, List.length_take] at inside; omega
  have run : p.log.take n = s.log.ring.take n := by
    rw [view, List.take_take]
    congr 1
    rw [view, List.length_take] at inside
    omega
  rw [finishRead, settled, live]
  simp only [finishLoad_nil, finishConsume, count, run]
  rw [show (closed x.kind s).log = s.log from rfl, consume_front log bound, read]
  simp [closed]

/-- Settles O45: the fault-flag field is the one thing absorbed. -/
theorem acknowledgeClearsFlags : Obligations.AcknowledgeClearsFlags := by
  unfold Obligations.AcknowledgeClearsFlags
  intro x lo hi s txn write untouched unseen live absorbed complete role
  have settled : updateSettings x (validateHeader x (closed x.kind s)) = closed x.kind s := by
    rw [validateHeader_untouched _ untouched]
    exact updateSettings_unseen unseen (fun no => complete.symm.trans no) role
  have field : finishAcknowledge x (closed x.kind s) = acknowledge (wordOf lo hi) (closed x.kind s) := by
    simp [finishAcknowledge, absorbed, assocGet]
  have ended : finishWrite x (closed x.kind s) = acknowledge (wordOf lo hi) (closed x.kind s) := by
    rw [finishWrite, settled, live]
    simp only [finishApply_nil, field]
    exact finishRequest_partial (o := 0xFFA0) _ (by omega) (by omega) (by rw [absorbed]; rfl)
  refine ⟨_, (transactionEnd_write txn write).trans (congrArg Host.Outcome.next ended), fun f => ?_, ?_, rfl, rfl, ?_, rfl⟩
  · have same : persists (closed x.kind s) f = persists s f := by cases f <;> rfl
    rw [flagOn_acknowledge, same]
    rfl
  · rfl
  · simp [acknowledge, closed, write]

end Sys2Proof.Machine
end

section
/-! PROOFS. The end of a transaction: the header and the map, the settings in force, the live records. -/

namespace Sys2Proof.Machine

set_option Elab.async false

/-! ### The header's checks (R185) -/

/-- A range fits where each of its addresses is one of 0x000C..0xFDFF (R185). -/
theorem rangeFits_iff (base n : Nat) : rangeFits base n = true ↔ ∀ a, lies a base n → 12 ≤ a ∧ a ≤ 0xFDFF := by
  simp only [rangeFits, lies, Bool.or_eq_true, Bool.and_eq_true, decide_eq_true_eq]
  constructor
  · rintro (empty | ⟨low, high⟩) a ⟨from_, below⟩ <;> omega
  · intro inside
    by_cases empty : n = 0
    · exact .inl empty
    · have first := inside base (by omega)
      have last := inside (base + n - 1) (by omega)
      exact .inr (by omega)

/-- Two ranges are apart where no address lies in both (R185). -/
theorem disjoint_iff (a n b m : Nat) : disjoint a n b m = true ↔ ∀ x, ¬ (lies x a n ∧ lies x b m) := by
  simp only [disjoint, lies, Bool.or_eq_true, decide_eq_true_eq]
  constructor
  · rintro apart x ⟨⟨h1, h2⟩, h3, h4⟩
    omega
  · intro apart
    by_contra meet
    exact apart (max a b) (by omega)

theorem rangesInside_iff (m : MapInfo) :
    (rangeFits m.program (16 * m.count) && rangeFits m.settings 128 && rangeFits m.live 24) = true ↔ rangesInside m := by
  simp only [Bool.and_eq_true, rangeFits_iff, rangesInside]
  exact ⟨fun ⟨⟨program, settings⟩, live⟩ a h => h.elim (program a) fun h => h.elim (settings a) (live a),
    fun all => ⟨⟨fun a h => all a (.inl h), fun a h => all a (.inr (.inl h))⟩, fun a h => all a (.inr (.inr h))⟩⟩

theorem rangesApart_iff (m : MapInfo) :
    (disjoint m.program (16 * m.count) m.settings 128 && disjoint m.program (16 * m.count) m.live 24
      && disjoint m.settings 128 m.live 24) = true ↔ rangesApart m := by
  simp only [Bool.and_eq_true, disjoint_iff, rangesApart]
  exact ⟨fun ⟨⟨first, second⟩, third⟩ a => ⟨first a, second a, third a⟩,
    fun all => ⟨⟨fun a => (all a).1, fun a => (all a).2.1⟩, fun a => (all a).2.2⟩⟩

open Classical in
/-- The five checks in order (R185). -/
theorem headerFailure_eq (b : Bytes) :
    headerFailure b =
      if ¬ (byteAt b 0 = 0x4A ∧ byteAt b 1 = 0x4B) then some 1
      else if headerField b 2 ≠ 1 then some 2
      else if 512 < headerField b 4 then some 3
      else if ¬ rangesInside (headerMap b) then some 4
      else if ¬ rangesApart (headerMap b) then some 5
      else none := by
  simp only [headerFailure, ← rangesInside_iff, ← rangesApart_iff, not_and_or, Bool.not_eq_true, Bool.not_eq_eq_eq_not,
    Bool.not_true]
  rfl

/-- The first of R185's checks that fails gives the code. -/
theorem headerFailure_codes (b : Bytes) :
    (headerFailure b = some 1 ↔ ¬ (byteAt b 0 = 0x4A ∧ byteAt b 1 = 0x4B)) ∧
    (headerFailure b = some 2 ↔ byteAt b 0 = 0x4A ∧ byteAt b 1 = 0x4B ∧ headerField b 2 ≠ 1) ∧
    (headerFailure b = some 3 ↔ byteAt b 0 = 0x4A ∧ byteAt b 1 = 0x4B ∧ headerField b 2 = 1 ∧ 512 < headerField b 4) ∧
    (headerFailure b = some 4 ↔ byteAt b 0 = 0x4A ∧ byteAt b 1 = 0x4B ∧ headerField b 2 = 1 ∧ headerField b 4 ≤ 512 ∧
      ¬ rangesInside (headerMap b)) ∧
    (headerFailure b = some 5 ↔ byteAt b 0 = 0x4A ∧ byteAt b 1 = 0x4B ∧ headerField b 2 = 1 ∧ headerField b 4 ≤ 512 ∧
      rangesInside (headerMap b) ∧ ¬ rangesApart (headerMap b)) ∧
    (headerFailure b = none ↔ byteAt b 0 = 0x4A ∧ byteAt b 1 = 0x4B ∧ headerField b 2 = 1 ∧ headerField b 4 ≤ 512 ∧
      rangesInside (headerMap b) ∧ rangesApart (headerMap b)) := by
  rw [headerFailure_eq]
  by_cases magic : byteAt b 0 = 0x4A ∧ byteAt b 1 = 0x4B
  · obtain ⟨j, k⟩ := magic
    by_cases version : headerField b 2 = 1
    · by_cases many : 512 < headerField b 4
      · simp [j, k, version, many, Nat.not_le.mpr many]
      · by_cases inside : rangesInside (headerMap b)
        · by_cases apart : rangesApart (headerMap b) <;> simp [j, k, version, many, inside, apart, Nat.not_lt.mp many]
        · simp [j, k, version, many, inside, Nat.not_lt.mp many]
    · simp [j, k, version]
  · rw [if_pos magic]
    have wrong : ∀ P : Prop, ¬ (byteAt b 0 = 0x4A ∧ byteAt b 1 = 0x4B ∧ P) := fun P h => magic ⟨h.1, h.2.1⟩
    simp only [wrong, magic]
    simp

/-! ### The map (R184, R186) -/

/-- What a new map state leaves: the mirrors' bytes, and the pointer within the entries in force (R186, R3). -/
theorem changeMap_eq (m : MapState) (s : State) :
    changeMap m s = { s with
      path := { s.path with map := m, program := clearMarks s.path.program, mirror := clearMarks s.path.mirror }
      engine := { s.engine with pointer := min s.engine.pointer (match m with | .mapped i => i.count | _ => 0) } } := by
  cases m <;> rfl

/-- What header validation leaves of the path: its map and the mirrors' marks, if it decides (R184, R186). -/
theorem validateHeader_path (x : Txn) (s : State) :
    validateHeader x s = s ∨ ∃ m, (validateHeader x s).path =
      { s.path with map := m, program := clearMarks s.path.program, mirror := clearMarks s.path.mirror } := by
  unfold validateHeader decideMap
  split
  · split
    · dsimp only
      split
      · exact .inl rfl
      · exact .inr ⟨.mapped (headerMap s.path.header.bytes), by simp [adoptMap, changeMap_eq]⟩
    · split
      · exact .inl rfl
      · exact .inr ⟨.mapFault, by simp [enterMapFault, changeMap_eq]⟩
  · exact .inl rfl

/-- A block is not complete through a map's change, which clears its marks (R186, R188). -/
theorem settingsComplete_validateHeader {x : Txn} {s : State} (incomplete : settingsComplete s = false) :
    settingsComplete (validateHeader x s) = false := by
  rcases validateHeader_path x s with same | ⟨m, path⟩
  · rw [same]
    exact incomplete
  · rw [settingsComplete, path]
    rfl

theorem validateHeader_line (x : Txn) (s : State) : (validateHeader x s).line = s.line := by
  unfold validateHeader decideMap
  split
  · split
    · dsimp only
      split <;> simp
    · split <;> simp
  · rfl

/-- A valid header with a new map is adopted (R186). -/
theorem validateHeader_adopts {x : Txn} {s : State} (touched : x.headerTouched = true)
    (all : ∀ o, o < 12 → captured s.path.header o = true) (valid : headerFailure s.path.header.bytes = none)
    (new : s.path.map ≠ .mapped (headerMap s.path.header.bytes)) :
    validateHeader x s = adoptMap (headerMap s.path.header.bytes) s := by
  have twelve : capturedAll s.path.header 0 12 = true := (capturedAll_iff _ _ _).mpr fun o _ high => all o (by omega)
  simp [validateHeader, touched, twelve, decideMap, valid, new]

/-- An invalid header enters MAP_FAULT (R186). -/
theorem validateHeader_faults {x : Txn} {s : State} {code : Nat} (touched : x.headerTouched = true)
    (all : ∀ o, o < 12 → captured s.path.header o = true) (invalid : headerFailure s.path.header.bytes = some code)
    (new : s.path.map ≠ .mapFault) : validateHeader x s = enterMapFault code s := by
  have twelve : capturedAll s.path.header 0 12 = true := (capturedAll_iff _ _ _).mpr fun o _ high => all o (by omega)
  simp [validateHeader, touched, twelve, decideMap, invalid, new]

/-- With a byte missing, or with what the header gives in force already, nothing is decided (R184, R186). -/
theorem validateHeader_stays {x : Txn} {s : State} (nothing : (∃ o, o < 12 ∧ captured s.path.header o = false) ∨
    (headerFailure s.path.header.bytes = none ∧ s.path.map = .mapped (headerMap s.path.header.bytes)) ∨
    (headerFailure s.path.header.bytes ≠ none ∧ s.path.map = .mapFault)) : validateHeader x s = s := by
  unfold validateHeader
  split
  · rename_i decided
    simp only [Bool.and_eq_true, capturedAll_iff] at decided
    rcases nothing with ⟨o, low, missing⟩ | ⟨valid, same⟩ | ⟨invalid, fault⟩
    · exact absurd (decided.2 o (Nat.zero_le _) (by omega)) (by simp [missing])
    · simp [decideMap, valid, same]
    · obtain ⟨code, failure⟩ := Option.ne_none_iff_exists'.mp invalid
      simp [decideMap, failure, fault]
  · rfl

/-- A new map limits the pointer and is logged (R3, R186). -/
theorem adoptMap_spec (m : MapInfo) (s : State) :
    adoptMap m s = { s with
        path := { s.path with map := .mapped m, program := clearMarks s.path.program, mirror := clearMarks s.path.mirror }
        engine := { s.engine with pointer := min s.engine.pointer m.count }
        log := (adoptMap m s).log } ∧
      (adoptMap m s).log.ring.getLast? =
        some { sequence := s.log.next, kind := .map, source := .path, time := s.clock.showClock, cueNo := 0xFFFF,
               slot := slotByte s.transport.slotInGate, detail1 := 1, detail2 := toWord m.count } := by
  obtain ⟨same, -, last⟩ := postGate_spec .map .path noCue 1 m.count (changeMap (.mapped m) s)
  refine ⟨?_, ?_⟩
  · refine same.trans ?_
    rw [changeMap_eq]
    rfl
  · rw [changeMap_eq] at last
    rw [adoptMap, changeMap_eq, last]
    rfl

/-- MAP_FAULT leaves no entry in force, and is flagged and logged (R186). -/
theorem enterMapFault_spec (code : Nat) (s : State) :
    enterMapFault code s = { s with
        path := { s.path with map := .mapFault, program := clearMarks s.path.program, mirror := clearMarks s.path.mirror }
        engine := { s.engine with pointer := 0 }
        log := (enterMapFault code s).log } ∧
      flagOn (enterMapFault code s) .mapFault = true ∧
      (enterMapFault code s).log.ring.getLast? =
        some { sequence := s.log.next, kind := .map, source := .path, time := s.clock.showClock, cueNo := 0xFFFF,
               slot := slotByte s.transport.slotInGate, detail1 := 2, detail2 := toWord code } := by
  obtain ⟨same, -, last⟩ := postGate_spec .map .path noCue 2 code (changeMap .mapFault s)
  have zero : min s.engine.pointer 0 = 0 := Nat.min_zero _
  refine ⟨?_, by simp [enterMapFault], ?_⟩
  · rw [enterMapFault, same, changeMap_eq]
    simp only [zero]
    rfl
  · rw [changeMap_eq] at last
    rw [enterMapFault, changeMap_eq, setFlag_log]
    exact last

/-- What header validation leaves as it is: all but the path, the pointer and the log (R184, R186). -/
theorem validateHeader_rest (x : Txn) (s : State) :
    validateHeader x s = { s with
        path := (validateHeader x s).path, engine := (validateHeader x s).engine, log := (validateHeader x s).log } := by
  unfold validateHeader decideMap
  split
  · split
    · dsimp only
      split
      · rfl
      · rw [(adoptMap_spec _ s).1]
    · split
      · rfl
      · rename_i code _ _
        rw [(enterMapFault_spec code s).1]
  · rfl

/-! ### The settings in force (R188) -/

/-- A READ or a latched WRITE with no live, absorbed or log byte ends with the map and the settings alone. -/
theorem transactionEnd_mapAndSettings {x : Txn} {p : Snapshot} {s : State} (txn : s.path.txn = some x)
    (kind : x.kind = .read p ∨ x.kind = .write true) (live : x.live = []) (absorbed : x.absorbed = []) (unread : x.logRead = []) :
    exec .transactionEnd s = .next (updateSettings x (validateHeader x (closed x.kind s))) := by
  rcases kind with read | write
  · rw [transactionEnd_read txn read, finishRead, finishConsume_unread _ _ unread, live]
    simp only [finishLoad_nil]
  · rw [transactionEnd_write txn write, finishWrite_unabsorbed _ absorbed, live]
    simp only [finishApply_nil]

/-- The focus motor alone hears of a change of the role (R144, R179). -/
theorem roleChange_transport (r : Role) (s : State) :
    (roleChange r s).transport = { s.transport with
      focus := .stopped, focusKey := none, focusAllowance := fullAllowance } := by
  have line : (restartLine r s).transport = s.transport := by
    unfold restartLine
    split <;> simp
  simp only [roleChange, handsetRoleChange, focusReport, line]

theorem roleChange_role (r : Role) (s : State) : (roleChange r s).line.role = r := by
  have restarted : (restartLine r s).line.role = r := by
    unfold restartLine
    cases r <;> simp [enterOff, dropBroadcasts_line, abandonLine]
  simp [roleChange, restarted]

theorem chooseFrame_role (s : State) : (chooseFrame s).line.role = s.line.role := by
  unfold chooseFrame
  (repeat' split) <;> simp [sendFrame, sendSync]

theorem followerCountChange_role (old : Nat) (s : State) : (followerCountChange old s).line.role = s.line.role := by
  unfold followerCountChange
  dsimp only
  split
  · rfl
  · split
    · rw [chooseFrame_role]
      rfl
    · rfl

/-- What the owners make of new settings: the line takes the role in force, and a READY transport is UNHOMED where S changed
(R29, R144). -/
theorem settingsActions_spec (old : Bytes) (s : State) :
    (settingsActions old s).path = s.path ∧ (settingsActions old s).line.role = lineRole s.path.settings ∧
      (traySize s.path.settings ≠ traySize old → s.transport.state = .ready →
        (settingsActions old s).transport.state = .unhomed ∧ (settingsActions old s).transport.slotInGate = none) ∧
      (traySize s.path.settings = traySize old → (settingsActions old s).transport.state = s.transport.state ∧
        (settingsActions old s).transport.slotInGate = s.transport.slotInGate ∧
        (settingsActions old s).transport.position = s.transport.position) := by
  obtain ⟨u, hu⟩ : ∃ u, u = if traySize s.path.settings ≠ traySize old then sizeChange s else s := ⟨_, rfl⟩
  obtain ⟨v, hv⟩ : ∃ v, v = if lineRole s.path.settings ≠ u.line.role then roleChange (lineRole s.path.settings) u else u :=
    ⟨_, rfl⟩
  have acts : settingsActions old s =
      if followerCount s.path.settings ≠ followerCount old then followerCountChange (followerCount old) v else v := by
    rw [hv, hu]
    rfl
  have upath : u.path = s.path := by rw [hu]; split <;> simp
  have vpath : v.path = s.path := by rw [hv]; split <;> simp [upath]
  have vrole : v.line.role = lineRole s.path.settings := by
    rw [hv]
    split
    · exact roleChange_role _ _
    · rename_i agrees
      exact (not_not.mp agrees).symm
  have vtransport : v.transport.state = u.transport.state ∧ v.transport.slotInGate = u.transport.slotInGate ∧
      v.transport.position = u.transport.position := by
    rw [hv]
    split
    · rw [roleChange_transport]
      exact ⟨rfl, rfl, rfl⟩
    · exact ⟨rfl, rfl, rfl⟩
  have transport : (settingsActions old s).transport = v.transport := by rw [acts]; split <;> simp
  rw [transport, vtransport.1, vtransport.2.1, vtransport.2.2, hu]
  refine ⟨by rw [acts]; split <;> simp [vpath], by rw [acts]; split <;> simp [followerCountChange_role, vrole], ?_, ?_⟩
  · intro changed ready
    rw [if_pos changed]
    simp [sizeChange, ready]
  · intro same
    rw [if_neg (not_not.mpr same)]
    exact ⟨rfl, rfl, rfl⟩

/-! ### The live records (R194 to R196) -/

/-- A transaction that left header and settings alone, in a state that agrees with them, changes neither. -/
theorem mapAndSettings_kept {x : Txn} {s : State} (untouched : x.headerTouched = false) (unseen : x.settingsSeen = [])
    (complete : x.wasComplete = settingsComplete s) (role : lineRole s.path.settings = s.line.role) :
    updateSettings x (validateHeader x (closed x.kind s)) = closed x.kind s := by
  rw [validateHeader_untouched _ untouched]
  exact updateSettings_unseen unseen (fun no => complete.symm.trans no) role

/-- What the usage record sets (R81). -/
theorem setUsage_eq (m : Assoc Byte) (s : State) :
    setUsage m s = { s with lamp := { s.lamp with
      usePrimary := { s.lamp.usePrimary with
        minutes := (clockOf (liveAt m 8) (liveAt m 9) (liveAt m 10) (liveAt m 11)).toNat
        starts := (wordOf (liveAt m 16) (liveAt m 17)).toNat }
      useSpare := { s.lamp.useSpare with
        minutes := (clockOf (liveAt m 12) (liveAt m 13) (liveAt m 14) (liveAt m 15)).toNat
        starts := (wordOf (liveAt m 18) (liveAt m 19)).toNat } } } := rfl

/-- A complete record is loaded at the end of a READ (R194). -/
theorem finishLoad_whole {m : Assoc Byte} {r : LiveRecord} (s : State)
    (whole : ∀ o, r.first ≤ o → o < r.first + r.length → assocHas m o = true) :
    finishLoad m r s = setLoaded r (loadRecord m r s) := by
  simp [finishLoad, (assocHasAll_iff _ _ _).mpr whole]

/-- A complete record is applied at the end of a WRITE (R195). -/
theorem finishApply_whole {m : Assoc Byte} {r : LiveRecord} (s : State)
    (whole : ∀ o, r.first ≤ o → o < r.first + r.length → assocHas m o = true) :
    finishApply m r s = setLoaded r (applyRecord m r s) := by
  simp [finishApply, (assocHasAll_iff _ _ _).mpr whole]

/-- A record written in part is counted (R195). -/
theorem finishApply_counted {m : Assoc Byte} {r : LiveRecord} (s : State)
    (some_ : ∃ o, r.first ≤ o ∧ o < r.first + r.length ∧ assocHas m o = true)
    (missing : ∃ o, r.first ≤ o ∧ o < r.first + r.length ∧ assocHas m o = false) :
    finishApply m r s = { s with path := { s.path with partialLive := satInc 255 s.path.partialLive } } := by
  obtain ⟨o, low, high, free⟩ := missing
  simp [finishApply, assocHasAll_false low high free, (assocHasAny_iff _ _ _).mpr some_]

theorem assocHas_eq_false {α : Type} {m : Assoc α} {P : Nat → Prop} (keys : ∀ o, assocHas m o = true ↔ P o) {o : Nat} (h : ¬ P o) :
    assocHas m o = false := by
  rw [← Bool.not_eq_true, keys]
  exact h

/-- The bytes of the lamp usage record alone load it (R194). -/
theorem loads_usage {m : Assoc Byte} (s : State) (keys : ∀ o, assocHas m o = true ↔ 8 ≤ o ∧ o < 20) :
    finishLoad m .tape (finishLoad m .lampUsage (finishLoad m .showPosition s)) = setLoaded .lampUsage (setUsage m s) := by
  rw [finishLoad_partial (r := .showPosition) s (assocHasAll_false (o := 0) (Nat.le_refl _) (by decide) (assocHas_eq_false keys (by omega))),
    finishLoad_whole (r := .lampUsage) s fun o low high => (keys o).mpr ⟨low, high⟩]
  exact finishLoad_partial _ (assocHasAll_false (o := 20) (Nat.le_refl _) (by decide) (assocHas_eq_false keys (by omega)))

/-- The bytes of the lamp usage record alone apply it (R195). -/
theorem applies_usage {m : Assoc Byte} (s : State) (keys : ∀ o, assocHas m o = true ↔ 8 ≤ o ∧ o < 20) :
    finishApply m .tape (finishApply m .lampUsage (finishApply m .showPosition s)) = setLoaded .lampUsage (setUsage m s) := by
  rw [finishApply_none (r := .showPosition) s fun o _ high => assocHas_eq_false keys fun h => Nat.not_le.mpr high h.1,
    finishApply_whole (r := .lampUsage) s fun o low high => (keys o).mpr ⟨low, high⟩]
  exact finishApply_none _ fun o low _ => assocHas_eq_false keys fun h => Nat.not_le.mpr h.2 low

/-- The bytes of the show position record alone load it (R194). -/
theorem loads_position {m : Assoc Byte} (s : State) (keys : ∀ o, assocHas m o = true ↔ o < 8) :
    finishLoad m .tape (finishLoad m .lampUsage (finishLoad m .showPosition s)) =
      setLoaded .showPosition (setPointer (live16 m 0) s) := by
  rw [finishLoad_whole (r := .showPosition) s fun o _ high => (keys o).mpr (by simpa [LiveRecord.first, LiveRecord.length] using high),
    finishLoad_partial (r := .lampUsage) _ (assocHasAll_false (o := 8) (Nat.le_refl _) (by decide) (assocHas_eq_false keys (by omega)))]
  exact finishLoad_partial _ (assocHasAll_false (o := 20) (Nat.le_refl _) (by decide) (assocHas_eq_false keys (by omega)))

/-- The bytes of the show position record alone apply it (R195, R196). -/
theorem applies_position {m : Assoc Byte} (s : State) (keys : ∀ o, assocHas m o = true ↔ o < 8) :
    finishApply m .tape (finishApply m .lampUsage (finishApply m .showPosition s)) =
      setLoaded .showPosition (writtenRunState (liveAt m 3).toNat
        (if s.engine.runState = .stopped ∨ s.engine.runState = .held then setPointer (live16 m 0) s else s)) := by
  rw [finishApply_whole (r := .showPosition) s fun o _ high => (keys o).mpr (by simpa [LiveRecord.first, LiveRecord.length] using high),
    finishApply_none (r := .lampUsage) _ fun o low _ => assocHas_eq_false keys (by simp [LiveRecord.first] at low; omega)]
  exact finishApply_none _ fun o low _ => assocHas_eq_false keys (by simp [LiveRecord.first] at low; omega)

/-- A tape record written in part is counted, and nothing else happens (R195). -/
theorem applies_partTape {m : Assoc Byte} (s : State) (keys : ∀ o, assocHas m o = true → 20 ≤ o ∧ o < 24)
    (some_ : ∃ o, assocHas m o = true) (missing : ∃ o, 20 ≤ o ∧ o < 24 ∧ assocHas m o = false) :
    finishApply m .tape (finishApply m .lampUsage (finishApply m .showPosition s)) =
      { s with path := { s.path with partialLive := satInc 255 s.path.partialLive } } := by
  have below : ∀ o, o < 20 → assocHas m o = false := fun o low => by
    rw [← Bool.not_eq_true]
    exact fun has => Nat.not_le.mpr low (keys o has).1
  rw [finishApply_none (r := .showPosition) s fun o _ high => below o (by simp [LiveRecord.first, LiveRecord.length] at high; omega),
    finishApply_none (r := .lampUsage) s fun o _ high => below o (by simp [LiveRecord.first, LiveRecord.length] at high; omega)]
  obtain ⟨o, has⟩ := some_
  exact finishApply_counted s ⟨o, (keys o has).1, (keys o has).2, has⟩ missing

/-- The run-state request of a written show position, by the run state (R196). -/
theorem writtenRunState_spec (v : Nat) (s : State) :
    (writtenRunState v s).engine.pointer = s.engine.pointer ∧
      (writtenRunState v s).engine.runState =
        (match v, s.engine.runState with
          | 0, _ => .stopped
          | 1, .stopped => .running
          | 1, .held => .running
          | 2, .running => .held
          | 3, .stopped => .learning
          | _, r => r) := by
  unfold writtenRunState
  by_cases same : v = s.engine.runState.code
  · rw [if_pos same]
    refine ⟨rfl, ?_⟩
    subst same
    cases s.engine.runState <;> rfl
  · rw [if_neg same]
    match v with
    | 0 => exact ⟨(requestStop_engine s).2.2.1, (requestStop_engine s).1⟩
    | 1 => cases h : s.engine.runState <;> simp [requestStart, requestResume, setRunState, h]
    | 2 => cases h : s.engine.runState <;> simp [requestHold, setRunState, h]
    | 3 => cases h : s.engine.runState <;> simp [requestLearn, setRunState, h]
    | n + 4 => exact ⟨rfl, rfl⟩

/-- A written run state that is in force, or none of Table 1-1, asks nothing (R196). -/
theorem writtenRunState_nothing {v : Nat} {s : State} (nothing : v = s.engine.runState.code ∨ 4 ≤ v) : writtenRunState v s = s := by
  unfold writtenRunState
  split
  · rfl
  · rename_i other
    obtain ⟨n, rfl⟩ : ∃ n, v = n + 4 := ⟨v - 4, by rcases nothing with same | big; exact absurd same other; omega⟩
    rfl

/-- A READ of live bytes alone ends with their records. -/
theorem transactionEnd_loads {x : Txn} {p : Snapshot} {s : State} (txn : s.path.txn = some x) (read : x.kind = .read p)
    (untouched : x.headerTouched = false) (unseen : x.settingsSeen = []) (unread : x.logRead = [])
    (complete : x.wasComplete = settingsComplete s) (role : lineRole s.path.settings = s.line.role) :
    exec .transactionEnd s = .next (finishLoad x.live .tape (finishLoad x.live .lampUsage (finishLoad x.live .showPosition
      (closed x.kind s)))) := by
  rw [transactionEnd_read txn read, finishRead, mapAndSettings_kept untouched unseen complete role,
    finishConsume_unread _ _ unread]

/-- A latched WRITE of live bytes alone ends with their records. -/
theorem transactionEnd_applies {x : Txn} {s : State} (txn : s.path.txn = some x) (write : x.kind = .write true)
    (untouched : x.headerTouched = false) (unseen : x.settingsSeen = []) (absorbed : x.absorbed = [])
    (complete : x.wasComplete = settingsComplete s) (role : lineRole s.path.settings = s.line.role) :
    exec .transactionEnd s = .next (finishApply x.live .tape (finishApply x.live .lampUsage (finishApply x.live .showPosition
      (closed x.kind s)))) := by
  rw [transactionEnd_write txn write, finishWrite_unabsorbed _ absorbed, mapAndSettings_kept untouched unseen complete role]

/-! ### The statement (R184 to R188, R194 to R196) -/

/-- Settles O46: the header's checks, the map it gives, the settings in force, and each live record. -/
theorem transactionEndActsOnMapSettingsAndRecords : Obligations.TransactionEndActsOnMapSettingsAndRecords := by
  unfold Obligations.TransactionEndActsOnMapSettingsAndRecords
  refine ⟨headerFailure_codes, ?_, ?_, ?_⟩
  · intro x p s txn kind touched unseen live absorbed unread complete role
    have kept : updateSettings x (validateHeader x (closed x.kind s)) = validateHeader x (closed x.kind s) := by
      refine updateSettings_unseen unseen (fun no => settingsComplete_validateHeader (complete.symm.trans no)) ?_
      rw [validateHeader_line]
      rcases validateHeader_path x (closed x.kind s) with same | ⟨m, path⟩
      · rw [same]
        exact role
      · rw [path]
        exact role
    refine ⟨_, (transactionEnd_mapAndSettings txn kind live absorbed unread).trans (congrArg Host.Outcome.next kept), ?_⟩
    have stays : ∀ P : Path → Prop, P (closed x.kind s).path →
        (∀ m, P { (closed x.kind s).path with
          map := m, program := clearMarks s.path.program, mirror := clearMarks s.path.mirror }) →
        P (validateHeader x (closed x.kind s)).path := fun P same changed => by
      rcases validateHeader_path x (closed x.kind s) with e | ⟨m, e⟩
      · rw [e]
        exact same
      · rw [e]
        exact changed m
    refine ⟨stays (fun q => q.txn = none) rfl fun _ => rfl, stays (fun q => q.settings = s.path.settings) rfl fun _ => rfl,
      stays (fun q => q.header = s.path.header) rfl fun _ => rfl,
      stays (fun q => q.program.bytes = s.path.program.bytes) rfl fun _ => rfl,
      stays (fun q => q.mirror.bytes = s.path.mirror.bytes) rfl fun _ => rfl,
      stays (fun q => q.showLoaded = s.path.showLoaded) rfl fun _ => rfl,
      stays (fun q => q.usageLoaded = s.path.usageLoaded) rfl fun _ => rfl,
      stays (fun q => q.tapeLoaded = s.path.tapeLoaded) rfl fun _ => rfl,
      validateHeader_rest x (closed x.kind s), fun all => ⟨fun valid new => ?_, fun code invalid new => ?_⟩, fun nothing => ?_⟩
    · obtain ⟨adopted, last⟩ := adoptMap_spec (headerMap (closed x.kind s).path.header.bytes) (closed x.kind s)
      rw [validateHeader_adopts (s := closed x.kind s) touched all valid new]
      exact ⟨by rw [adopted]; rfl, by rw [adopted]; rfl, by rw [adopted]; rfl, by rw [adopted]; rfl, last⟩
    · obtain ⟨entered, flagged, last⟩ := enterMapFault_spec code (closed x.kind s)
      rw [validateHeader_faults (s := closed x.kind s) touched all invalid new]
      exact ⟨by rw [entered], by rw [entered]; rfl, by rw [entered]; rfl, by rw [entered]; rfl, flagged, last⟩
    · rw [validateHeader_stays (s := closed x.kind s) nothing]
      exact ⟨rfl, rfl, rfl, rfl, rfl⟩
  · intro x p s txn kind untouched live absorbed unread wf
    obtain ⟨b, hb⟩ : ∃ b, b = newSettings x (closed x.kind s) := ⟨_, rfl⟩
    have ended : updateSettings x (validateHeader x (closed x.kind s)) =
        settingsActions s.path.settings { s with path := { (closed x.kind s).path with settings := b } } := by
      rw [validateHeader_untouched _ untouched, hb]
      rfl
    obtain ⟨path, role, changed, same⟩ :=
      settingsActions_spec s.path.settings { s with path := { (closed x.kind s).path with settings := b } }
    refine ⟨_, (transactionEnd_mapAndSettings txn kind live absorbed unread).trans (congrArg Host.Outcome.next ended), ?_⟩
    rw [path, role]
    refine ⟨rfl, fun was o => ?_, fun was all => ?_, fun was missing => ?_, rfl, changed, same⟩
    · have replaced : b = replaceBytes s.path.mirror.bytes x.settingsSeen s.path.settings := by
        rw [hb, newSettings, if_pos was]
        rfl
      show byteAt b o = _
      rw [replaced, byteAt_replaceBytes _ _ _ wf]
    · have complete : settingsComplete (closed x.kind s) = true := (capturedAll_iff _ _ _).mpr fun o _ high => all o (by omega)
      show b = _
      rw [hb, newSettings, if_neg (by simp [was]), if_pos complete]
      rfl
    · have incomplete : settingsComplete (closed x.kind s) = false := by
        obtain ⟨o, high, free⟩ := missing
        rw [← Bool.not_eq_true, settingsComplete, capturedAll_iff]
        exact fun all => absurd (all o (Nat.zero_le _) (by omega)) (by rw [show captured (closed x.kind s).path.mirror o = false from free]; simp)
      show b = _
      rw [hb, newSettings, if_neg (by simp [was]), if_neg (by simp [incomplete])]
      rfl
  · intro x p s txn untouched unseen absorbed unread complete role
    refine ⟨fun kind keys => ?_, fun read keys => ?_, fun write keys => ?_, fun write keys some_ missing => ?_⟩
    · have ended : exec .transactionEnd s = .next (setLoaded .lampUsage (setUsage x.live (closed x.kind s))) := by
        rcases kind with read | write
        · rw [transactionEnd_loads txn read untouched unseen unread complete role, loads_usage _ keys]
        · rw [transactionEnd_applies txn write untouched unseen absorbed complete role, applies_usage _ keys]
      exact ⟨_, ended, rfl, rfl, rfl, rfl, rfl⟩
    · rw [transactionEnd_loads txn read untouched unseen unread complete role, loads_position _ keys, read]
      simp [setLoaded, setPointer, closed, entriesInForce, live16]
    · obtain ⟨u, hu⟩ : ∃ u, u = if s.engine.runState = .stopped ∨ s.engine.runState = .held
          then setPointer (live16 x.live 0) (closed x.kind s) else closed x.kind s := ⟨_, rfl⟩
      have pointer : u.engine.pointer = (if s.engine.runState = .stopped ∨ s.engine.runState = .held then
          min (wordOf (liveAt x.live 0) (liveAt x.live 1)).toNat (entriesInForce s) else s.engine.pointer) := by
        rw [hu]
        split <;> rfl
      have runState : u.engine.runState = s.engine.runState := by
        rw [hu]
        split <;> rfl
      have rest : u = { s with path := u.path, engine := u.engine } ∧ u.engine.queue = s.engine.queue ∧
          u.engine.cue = s.engine.cue := by
        rw [hu]
        split <;> exact ⟨rfl, rfl, rfl⟩
      have ended : exec .transactionEnd s =
          .next (setLoaded .showPosition (writtenRunState (liveAt x.live 3).toNat u)) := by
        rw [transactionEnd_applies txn write untouched unseen absorbed complete role, applies_position _ keys, hu]
        rfl
      obtain ⟨pointer', runState'⟩ := writtenRunState_spec (liveAt x.live 3).toNat u
      refine ⟨_, ended, rfl, pointer'.trans pointer, ?_, fun nothing => ?_⟩
      · rw [runState] at runState'
        exact runState'
      · rw [writtenRunState_nothing (by rw [runState]; exact nothing)]
        obtain ⟨same, queue, cue⟩ := rest
        exact ⟨by rw [same]; rfl, queue, cue⟩
    · rw [transactionEnd_applies txn write untouched unseen absorbed complete role, applies_partTape _ keys some_ missing, write]
      simp [closed, satInc]

end Sys2Proof.Machine
end

section
/-! PROOFS. The control requests: what each asks for, its result, and what a refusal leaves. -/

namespace Sys2Proof.Machine

set_option Elab.async false

/-! ### The request of a transaction (R198) -/

/-- A request's outcome with its code and result as the read-back. -/
def answered (code : Byte) (r : State × Result) : State :=
  { r.1 with path := { r.1.path with reqCode := code, reqResult := toByte r.2.code } }

/-- A latched WRITE of the whole control record alone makes its request. -/
theorem transactionEnd_request {x : Txn} {q : Nat → Byte} {s : State} (txn : s.path.txn = some x) (write : x.kind = .write true)
    (untouched : x.headerTouched = false) (unseen : x.settingsSeen = []) (live : x.live = [])
    (bytes : ∀ o, o < 8 → assocGet x.absorbed (0xFFA0 + o) = some (q o)) (flags : assocHas x.absorbed 0xFF9A = false)
    (complete : x.wasComplete = settingsComplete s) (role : lineRole s.path.settings = s.line.role) :
    exec .transactionEnd s = .next (answered (q 0) (controlRequest (q 0).toNat (q 1).toNat (wordOf (q 2) (q 3))
      (wordOf (q 4) (q 5)) (closed (.write true) s))) := by
  have all : assocHasAll x.absorbed 0xFFA0 8 = true := (assocHasAll_iff _ _ _).mpr fun o low high => by
    obtain ⟨i, rfl⟩ : ∃ i, o = 0xFFA0 + i := ⟨o - 0xFFA0, by omega⟩
    simp [assocHas, bytes i (by omega)]
  have byte : ∀ o, o < 8 → requestByte x o = q o := fun o small => by simp [requestByte, bytes o small]
  rw [transactionEnd_write txn write, finishWrite, mapAndSettings_kept untouched unseen complete role, live]
  simp only [finishApply_nil]
  rw [finishAcknowledge_half _ (.inl flags), finishRequest, if_pos all, write]
  simp only [byte, show (0 : Nat) < 8 by decide, show (1 : Nat) < 8 by decide, show (2 : Nat) < 8 by decide,
    show (3 : Nat) < 8 by decide, show (4 : Nat) < 8 by decide, show (5 : Nat) < 8 by decide]
  rfl

theorem byState_code (p : State × Bool) : (byState p).2.code = if p.2 then 1 else 2 := by
  unfold byState
  cases p.2 <;> rfl

/-! ### The run state (Table 1-4) -/

theorem startRequest_spec (s : State) :
    (byState (requestStart s)).2.code = (if s.engine.runState = .stopped then 1 else 2) ∧
      ((byState (requestStart s)).2.code = 1 → (byState (requestStart s)).1.engine = { s.engine with runState := .running }) ∧
      ((byState (requestStart s)).2.code ≠ 1 → (byState (requestStart s)).1 = s) := by
  rw [byState_code]
  by_cases stopped : s.engine.runState = .stopped <;> simp [requestStart, byState, stopped, setRunState]

theorem holdRequest_spec (s : State) :
    (byState (requestHold s)).2.code = (if s.engine.runState = .running then 1 else 2) ∧
      ((byState (requestHold s)).2.code = 1 → (byState (requestHold s)).1.engine = { s.engine with runState := .held }) ∧
      ((byState (requestHold s)).2.code ≠ 1 → (byState (requestHold s)).1 = s) := by
  rw [byState_code]
  by_cases running : s.engine.runState = .running <;> simp [requestHold, byState, running, setRunState]

theorem resumeRequest_spec (s : State) :
    (byState (requestResume s)).2.code = (if s.engine.runState = .held then 1 else 2) ∧
      ((byState (requestResume s)).2.code = 1 → (byState (requestResume s)).1.engine = { s.engine with runState := .running }) ∧
      ((byState (requestResume s)).2.code ≠ 1 → (byState (requestResume s)).1 = s) := by
  rw [byState_code]
  by_cases held : s.engine.runState = .held <;> simp [requestResume, byState, held, setRunState]

theorem learnRequest_spec (s : State) :
    (byState (requestLearn s)).2.code = (if s.engine.runState = .stopped then 1 else 2) ∧
      ((byState (requestLearn s)).2.code = 1 → (byState (requestLearn s)).1.engine = { s.engine with runState := .learning }) ∧
      ((byState (requestLearn s)).2.code ≠ 1 → (byState (requestLearn s)).1 = s) := by
  rw [byState_code]
  by_cases stopped : s.engine.runState = .stopped <;> simp [requestLearn, byState, stopped, setRunState]

/-! ### Cues, and the deck (Table 9-7, R105) -/

/-- A CONTROL cue is queued, or a full queue refuses it with its entry in the log (R8). -/
theorem controlCue_spec {k : CueKind} (s : State) (kept : discardedStopped .control k = false) :
    (controlCue k s).2.code = (if s.engine.queue.length < 4 then 1 else 4) ∧
      ((controlCue k s).2.code = 1 → (controlCue k s).1 = { s with engine := { s.engine with
        queue := s.engine.queue ++ [{ source := .control, kind := k, arrival := s.clock.showClock, start := none }] } }) ∧
      ((controlCue k s).2.code = 4 → (controlCue k s).1 = { s with log := (controlCue k s).1.log }) := by
  rcases postCue_cases .control k none s with ⟨-, discarded, -⟩ | ⟨room, queued⟩ | ⟨full, refused⟩
  · simp [kept] at discarded
  · simp [controlCue, queued, room, Result.code]
  · have crowded : ¬ s.engine.queue.length < 4 := by omega
    have log := (postGate_spec .cueRefused (.cue .control) k.number k.code 0 s).1
    simp only [controlCue, refused, crowded, if_true, if_false, Result.code]
    exact ⟨trivial, nofun, fun _ => log⟩

/-- What the DECK request answers (R105). -/
theorem controlDeck_result (a : Nat) (target : Int) (s : State) :
    (controlDeck a target s).2.code =
        (if 4 < a then 3
        else if s.engine.runState = .learning ∨ (2 ≤ a ∧ s.engine.runState = .running) then 2 else 1) ∧
      ((controlDeck a target s).2.code ≠ 1 → (controlDeck a target s).1 = s) := by
  unfold controlDeck
  by_cases above : 4 < a
  · simp [above, Result.code]
  · simp only [above, if_false]
    have small : a ≤ 4 := Nat.not_lt.mp above
    interval_cases a <;> cases run : s.engine.runState <;> simp [Result.code, mayWind]

/-- A moving mode asked of a deck in STOP is entered at once (R104). -/
theorem deckRequest_moves {m : DeckMode} {s : State} (stop : s.deck.mode = .stop) (moving : m.moving = true) :
    (deckRequest m s).deck.mode = m := by
  have asked : deckRequest m s = setDeckMode m { s with deck := { s.deck with locate := none } } := by
    simp [deckRequest, stop, moving]
  rw [asked, (setDeckMode_entered m _).mode]

/-- A DECK request that is taken moves a deck in STOP (R104, R105). -/
theorem controlDeck_moves {a : Nat} {target : Int} {s : State} (taken : (controlDeck a target s).2.code = 1)
    (stop : s.deck.mode = .stop) :
    (a = 1 → (controlDeck a target s).1.deck.mode = .play) ∧ (a = 2 → (controlDeck a target s).1.deck.mode = .fastFwd) ∧
      (a = 3 → (controlDeck a target s).1.deck.mode = .rewind) := by
  have result := (controlDeck_result a target s).1.symm.trans taken
  refine ⟨?_, ?_, ?_⟩
  · rintro rfl
    have may : s.engine.runState ≠ .learning := fun h => by simp [h] at result
    simp only [controlDeck, may, show ¬ 4 < 1 by decide, if_false]
    exact deckRequest_moves stop rfl
  · rintro rfl
    have may : s.engine.runState ≠ .learning ∧ s.engine.runState ≠ .running := by
      constructor <;> intro h <;> simp [h] at result
    have wind : mayWind s.engine.runState = true := by cases h : s.engine.runState <;> simp_all [mayWind]
    simp only [controlDeck, may.1, wind, show ¬ 4 < 2 by decide, if_false, if_true]
    exact deckRequest_moves stop rfl
  · rintro rfl
    have may : s.engine.runState ≠ .learning ∧ s.engine.runState ≠ .running := by
      constructor <;> intro h <;> simp [h] at result
    have wind : mayWind s.engine.runState = true := by cases h : s.engine.runState <;> simp_all [mayWind]
    simp only [controlDeck, may.1, wind, show ¬ 4 < 3 by decide, if_false, if_true]
    exact deckRequest_moves stop rfl

/-! ### The lamp (R60 to R63) -/

/-- LAMP_ON without mains or with the lamp in FAULT is refused (R60). -/
theorem lampOn_refused {s : State} (barred : s.power.state ≠ .on ∨ s.lamp.state = .fault) : lampOn s = (s, false) := by
  unfold lampOn
  rcases barred with off | fault
  · simp [off]
  · simp [fault]

/-- LAMP_ON of a lamp that shines or swaps cancels its going off (R60, R62). -/
theorem lampOn_cancels {s : State} (on : s.power.state = .on) (up : s.lamp.state = .lit ∨ s.lamp.state = .swapping) :
    lampOn s = ({ s with lamp := cancelOff s.lamp }, true) := by
  rcases up with lit | swapping
  · simp [lampOn, on, lit]
  · simp [lampOn, on, swapping]

/-- With no GOOD socket LAMP_ON enters FAULT (R60). -/
theorem lampOn_noSocket {s : State} (on : s.power.state = .on) (off : s.lamp.state = .off) (primary : s.lamp.primary = .failed)
    (spare : s.lamp.spare = .failed) :
    lampOn s = (postNoLamp 1 65535 { s with lamp := { s.lamp with state := .fault, goingOff := none } }, false) := by
  have nowhere : chosenSocket s.lamp = none := by
    unfold chosenSocket
    cases s.lamp.active <;> split <;> simp [primary, spare, socketState, otherSocket]
  simp [lampOn, on, off, nowhere]

/-- LAMP_ON of a dark lamp lights the chosen socket at its stop or swaps toward it (R60). -/
theorem lampOn_lights {s : State} {k : Socket} (on : s.power.state = .on) (off : s.lamp.state = .off)
    (chosen : chosenSocket s.lamp = some k) :
    lampOn s = (if stopOf k = carriagePosition s.lamp
      then { s with lamp := { s.lamp with state := .lit, active := k, duty := 0, openCount := 0, goingOff := none } }
      else startSwap k false { s with lamp := { s.lamp with goingOff := none } }, true) := by
  simp only [lampOn, on, off, chosen]
  by_cases stop : stopOf k = carriagePosition s.lamp <;> simp [stop]

/-- The lamp as an off request marks it (R61). -/
def markedOff (who : OffRequest) (t : Nat) (l : Lamp) : Lamp :=
  { l with
    goingOff := some who
    ramp := { l0 := l.level, l1 := 0, n := t, k := 0, active := true, requester := some .off } }

/-- An off request marks the lamp; a ramp of the cue engine it replaces is taken over (R61, R23). -/
theorem offRequest_eq {who : OffRequest} {t : Nat} {s : State} (up : s.lamp.state = .lit ∨ s.lamp.state = .swapping) :
    offRequest who t s =
      if (s.lamp.ramp.active && decide (s.lamp.ramp.requester = some .engine)) = true
      then engineRampDone { s with lamp := markedOff who t s.lamp } else { s with lamp := markedOff who t s.lamp } :=
  if_pos up

/-- With no cue that awaits its ramp an off request reaches the lamp alone (R23, R61). -/
theorem offRequest_unheard {who : OffRequest} {t : Nat} {s : State} (up : s.lamp.state = .lit ∨ s.lamp.state = .swapping)
    (nobody : ∀ e, s.engine.cue = some e → e.awaiting = false) :
    offRequest who t s = { s with lamp := markedOff who t s.lamp } := by
  rw [offRequest_eq up]
  split
  · cases cue : s.engine.cue with
    | none => simp [engineRampDone, cue]
    | some e => exact engineRampDone_unawaited (by exact cue) (nobody e cue)
  · rfl

/-- A cue in FADING_IN whose ramp an off request takes over completes (R23, R24). -/
theorem offRequest_completes {who : OffRequest} {t : Nat} {s : State} {e : Executing}
    (up : s.lamp.state = .lit ∨ s.lamp.state = .swapping) (cue : s.engine.cue = some e) (awaits : e.awaiting = true)
    (phase : e.phase = .fadingIn) (noCycle : e.cycle = false) (active : s.lamp.ramp.active = true)
    (engine : s.lamp.ramp.requester = some .engine) :
    (offRequest who t s).lamp = markedOff who t s.lamp ∧ (offRequest who t s).engine = { s.engine with cue := none } := by
  have replaced : (s.lamp.ramp.active && decide (s.lamp.ramp.requester = some .engine)) = true := by simp [active, engine]
  rw [offRequest_eq up, if_pos replaced, engineRampDone_fadingIn (by exact cue) awaits phase]
  simp [noCycle]

/-- LAMP_REPLACED makes its socket GOOD (R63). -/
theorem lampReplaced_eq {a : Nat} (s : State) (socket : a ≤ 1) :
    (lampReplaced a s).1 = { s with lamp := { s.lamp with
      primary := if a = 0 then .good else s.lamp.primary
      spare := if a = 1 then .good else s.lamp.spare
      state := if s.lamp.state = .fault then .off else s.lamp.state } } := by
  interval_cases a <;> simp [lampReplaced, setSocket]

/-! ### Power and the line (Table 4-3, R149) -/

/-- POWER_ON and POWER_OFF, refused (Table 4-3). -/
theorem powerOnRequest_refused {s : State} (up : s.power.state = .runup ∨ s.power.state = .on) :
    powerOnRequest 2 s = (s, false) := by
  rcases up with h | h <;> simp [powerOnRequest, h]

theorem powerOffRequest_refused {s : State} (down : s.power.state = .standby ∨ s.power.state = .shutdown) :
    powerOffRequest 2 s = (s, false) := by
  rcases down with h | h <;> simp [powerOffRequest, h]

/-- From a state other than ON a change of the power state reaches the power unit and the log alone (R85). -/
theorem setPower_rest {st : PowerState} (cause : Nat) {s : State} (off : s.power.state ≠ .on) :
    setPower st cause s = { s with power := (setPower st cause s).power, log := (setPower st cause s).log } := by
  obtain ⟨same, -, -⟩ := postGate_spec .power .cooling noCue st.code cause s
  have fan (f : Nat) (u : State) : setFan f u = { u with power := (setFan f u).power } := by
    unfold setFan
    (repeat' split) <;> rfl
  have entered (old : PowerState) (u : State) : enterPower old st u = { u with power := (enterPower old st u).power } := by
    unfold enterPower
    split
    · exact fan _ _
    · exact fan _ _
    · rfl
    · split
      · exact fan _ _
      · rfl
  unfold setPower
  dsimp only
  rw [if_neg (by simp [off]), entered, same]

/-- LINE_RESET of a lead in LINE_FAULT detects afresh (R149). -/
theorem lineReset_fault {s : State} (lead : s.line.role = .lead) (fault : s.line.state = .lineFault) :
    lineReset s = ({ s with line := { s.line with
      state := .detect, detectCount := 0, detectPeriod := some (s.clock.now + 10000), discharge := none
      overcurrents := 0, quiet := none } }, true) := by
  simp [lineReset, lead, fault, enterDetect, startTimer, detectPeriodUs]

/-- LINE_RESET of a lead in any other state goes OFF (R149). -/
theorem lineReset_off {s : State} (lead : s.line.role = .lead) (other : s.line.state ≠ .lineFault) :
    (lineReset s).2 = true ∧ (lineReset s).1.line.state = .off ∧
      (lineReset s).1.line.discharge = some (s.clock.now + 200000) ∧ (lineReset s).1.line.retry = none ∧
      (lineReset s).1.line.settle = none ∧ (lineReset s).1.line.detectCount = 0 ∧ (lineReset s).1.line.detectPeriod = none ∧
      (lineReset s).1.line.overcurrents = 0 ∧ (lineReset s).1.line.quiet = none ∧
      (s.line.state.powered = true → (lineReset s).1.line.queue = []) := by
  obtain ⟨u, hu⟩ : ∃ u : State, u = { s with line := { s.line with overcurrents := 0, quiet := none } } := ⟨_, rfl⟩
  have off : lineReset s = (enterOff (if s.line.state.powered then leavePowered .off u else u), true) := by
    rw [hu]
    simp only [lineReset, lead, other, if_false]
    split <;> rfl
  rw [off]
  by_cases powered : s.line.state.powered = true
  · have line := leavePowered_line (st := .off) u (by simp)
    have clock : (leavePowered .off u).clock = s.clock := by simp [hu]
    simp only [powered, if_true, enterOff, line, startTimer, dischargeUs, clock]
    simp [abandonLine, hu]
  · simp [powered, enterOff, startTimer, dischargeUs, hu]

end Sys2Proof.Machine
end

section
/-! PROOFS. The WRITE_CUE request, and the control requests together. -/

namespace Sys2Proof.Machine

set_option Elab.async false

/-! ### Where a frame goes (R136, R137) -/

theorem freeRun_occupied {w : Writer} {d n : Nat} (occupied : ∃ i, i < n ∧ assocHas w.slots ((w.pointer + (d + i)) % 256) = true) :
    freeRun w d n = false := by
  obtain ⟨i, small, has⟩ := occupied
  rw [← Bool.not_eq_true, freeRun_iff]
  exact fun free => by simp [free i small] at has

theorem findPlace_range {w : Writer} {d n : Nat} (out : d < 8 ∨ 200 < d ∨ 248 < d + n) :
    findPlace w n (some d) = .error .range := if_pos out

theorem findPlace_overlap {w : Writer} {d n : Nat} (low : 8 ≤ d) (high : d ≤ 200) (fits : d + n ≤ 248)
    (occupied : ∃ i, i < n ∧ assocHas w.slots ((w.pointer + (d + i)) % 256) = true) :
    findPlace w n (some d) = .error .overlap :=
  (if_neg (by omega)).trans (if_neg (by simp [freeRun_occupied occupied]))

theorem findPlace_noRoom {w : Writer} {n : Nat} (some_ : n ≤ 240)
    (occupied : ∀ d, 8 ≤ d → d + n ≤ 248 → ∃ i, i < n ∧ assocHas w.slots ((w.pointer + (d + i)) % 256) = true) :
    findPlace w n none = .error .noRoom := by
  have nowhere : firstFit w n 8 (248 - n - 7) = none := (firstFit_eq w n 8 (248 - n - 7)).1.mpr fun d low high =>
    freeRun_occupied (occupied d low (by omega))
  simp [findPlace, nowhere]

/-- A free run is taken, by its offset or as the first from offset 8 (R136, R137). -/
theorem findPlace_free {w : Writer} {c d n : Nat} (low : 8 ≤ d) (high : d ≤ 200) (fits : d + n ≤ 248)
    (here : d = c ∨ (c = 0 ∧ ∀ d', 8 ≤ d' → d' < d →
      ∃ i, i < n ∧ assocHas w.slots ((w.pointer + (d' + i)) % 256) = true))
    (free : ∀ i, i < n → assocHas w.slots ((w.pointer + (d + i)) % 256) = false) :
    findPlace w n (if c = 0 then none else some c) = .ok d := by
  have run : freeRun w d n = true := (freeRun_iff w d n).mpr free
  rcases here with rfl | ⟨rfl, before⟩
  · rw [if_neg (by omega)]
    exact (if_neg (by omega)).trans (if_pos run)
  · have first : firstFit w n 8 (248 - n - 7) = some d := (firstFit_eq w n 8 (248 - n - 7)).2 d low (by omega) run
      fun d' from_ below => freeRun_occupied (before d' from_ below)
    simp [findPlace, first]

/-! ### The WRITE_CUE request (R135 to R141) -/

/-- A frame placed at offset `d`, with its entry (R135, R141). -/
def written (kind : Nat) (data : Word) (d : Nat) (s : State) : State :=
  postGate .frameWritten (.cue .control) (if kind = 3 then data else noCue) d (headerChar kind s.writer.sequence).toNat
    { s with writer :=
        { layCells s.writer d (frameCells kind s.writer.sequence data) with sequence := (s.writer.sequence + 1) % 4 } }

/-- The operands of WRITE_CUE lie in their ranges (R139). -/
def InRange (kind : Nat) (data : Word) : Prop := 1 ≤ kind ∧ kind ≤ 6 ∧ (kind = 3 → data.toNat ≤ 4095)

theorem controlWriteCue_stopped {s : State} (kind : Nat) (b c : Word) (stopped : s.deck.mode ≠ .record) :
    controlWriteCue kind b c s = (s, .refusedState) := if_pos stopped

theorem controlWriteCue_bad {s : State} {kind : Nat} {b : Word} (c : Word) (record : s.deck.mode = .record)
    (bad : kind = 0 ∨ 6 < kind ∨ (kind = 3 ∧ 4095 < b.toNat)) : controlWriteCue kind b c s = (s, .refusedArgument) :=
  (if_neg (by simp [record])).trans (if_pos bad)

theorem controlWriteCue_refused {s : State} {kind : Nat} {b c : Word} {r : Refuse} (record : s.deck.mode = .record)
    (range : InRange kind b)
    (refused : findPlace s.writer (frameLength kind) (if c.toNat = 0 then none else some c.toNat) = .error r) :
    controlWriteCue kind b c s = (s, placementResult (some r)) := by
  obtain ⟨low, high, number⟩ := range
  have good : ¬ (kind = 0 ∨ 6 < kind ∨ (kind = 3 ∧ 4095 < b.toNat)) := by omega
  have zero : c = 0 ↔ c.toNat = 0 := by rw [← BitVec.toNat_inj]; rfl
  simp only [controlWriteCue, placeFrame, record, good, ne_eq, not_true_eq_false, if_false, zero, refused]

theorem controlWriteCue_placed {s : State} {kind d : Nat} {b c : Word} (record : s.deck.mode = .record) (range : InRange kind b)
    (placed : findPlace s.writer (frameLength kind) (if c.toNat = 0 then none else some c.toNat) = .ok d) :
    controlWriteCue kind b c s = (written kind b d s, .taken) := by
  obtain ⟨low, high, number⟩ := range
  have good : ¬ (kind = 0 ∨ 6 < kind ∨ (kind = 3 ∧ 4095 < b.toNat)) := by omega
  have zero : c = 0 ↔ c.toNat = 0 := by rw [← BitVec.toNat_inj]; rfl
  simp only [controlWriteCue, placeFrame, record, good, ne_eq, not_true_eq_false, if_false, zero, placed]
  rfl

/-- A request for the deck out of RECORD, or one that is refused, changes nothing (R141). -/
theorem controlWriteCue_unchanged {s : State} {kind : Nat} {b c : Word} (refused : (controlWriteCue kind b c s).2.code ≠ 1) :
    (controlWriteCue kind b c s).1 = s := by
  by_cases record : s.deck.mode = .record
  · by_cases bad : kind = 0 ∨ 6 < kind ∨ (kind = 3 ∧ 4095 < b.toNat)
    · rw [controlWriteCue_bad c record bad]
    · have range : InRange kind b := ⟨by omega, by omega, by omega⟩
      cases place : findPlace s.writer (frameLength kind) (if c.toNat = 0 then none else some c.toNat) with
      | error r => rw [controlWriteCue_refused record range place]
      | ok d =>
        rw [controlWriteCue_placed record range place] at refused
        exact absurd rfl refused
  · rw [controlWriteCue_stopped kind b c record]

/-- A frame placed: its cells in its slots, every other slot as it was, the sequence on, and its entry last (R135, R141). -/
theorem written_spec (kind : Nat) (data : Word) (d : Nat) (s : State) :
    (written kind data d s).writer =
        { s.writer with slots := (written kind data d s).writer.slots, sequence := (s.writer.sequence + 1) % 4 } ∧
      (∀ i, i < frameLength kind → assocGet (written kind data d s).writer.slots ((s.writer.pointer + (d + i)) % 256) =
        (frameCells kind s.writer.sequence data)[i]?) ∧
      (∀ k, (∀ i, i < frameLength kind → k ≠ (s.writer.pointer + (d + i)) % 256) →
        assocGet (written kind data d s).writer.slots k = assocGet s.writer.slots k) ∧
      (written kind data d s).log.ring.getLast? =
        some { sequence := s.log.next, kind := .frameWritten, source := .cue .control, time := s.clock.showClock,
               cueNo := if kind = 3 then data else 0xFFFF, slot := slotByte s.transport.slotInGate, detail1 := toWord d,
               detail2 := toWord (headerChar kind s.writer.sequence).toNat } ∧
      written kind data d s = { s with writer := (written kind data d s).writer, log := (written kind data d s).log } := by
  obtain ⟨same, -, last⟩ := postGate_spec .frameWritten (.cue .control) (if kind = 3 then data else noCue) d
    (headerChar kind s.writer.sequence).toNat { s with writer :=
        { layCells s.writer d (frameCells kind s.writer.sequence data) with sequence := (s.writer.sequence + 1) % 4 } }
  have length := frameCells_length kind s.writer.sequence data
  have short : (frameCells kind s.writer.sequence data).length ≤ 256 := by
    rw [length, frameLength]
    split <;> omega
  have writer : (written kind data d s).writer =
      { layCells s.writer d (frameCells kind s.writer.sequence data) with sequence := (s.writer.sequence + 1) % 4 } :=
    congrArg State.writer same
  have slots := layCells_slots s.writer d (frameCells kind s.writer.sequence data)
  have rest : ∀ (w : Writer) (cs : List Symbol) (e : Nat),
      layCells w e cs = { w with slots := (layCells w e cs).slots } := fun w cs => by
    induction cs generalizing w with
    | nil => exact fun _ => rfl
    | cons c cs ih => exact fun e => ih _ (e + 1)
  refine ⟨?_, fun i small => ?_, fun k other => ?_, last, same.trans ?_⟩
  · rw [writer, rest s.writer _ d]
  · rw [writer]
    exact (slots 0 short).1 i (by rw [length]; exact small)
  · rw [writer]
    exact (slots k short).2 (by rw [length]; exact other)
  · rw [writer]
    rfl

/-! ### All requests (R198, Table 9-7) -/

/-- What a request leaves as it was, the read-back apart. -/
theorem answered_unchanged {code : Byte} {r : State × Result} {s : State} (same : r.1 = closed (.write true) s) :
    answered code r = { s with path := (answered code r).path } := by
  unfold answered
  rw [same]
  rfl

/-- The read-back is all that a request changes of the path (R198). -/
theorem answered_path {code : Byte} {r : State × Result} {s : State} (path : r.1.path = (closed (.write true) s).path) :
    (answered code r).path = { s.path with
      txn := none, legOpen := false, latch := false, reqCode := code, reqResult := toByte r.2.code } := by
  simp [answered, path, closed]

theorem byState_refused {p : State × Bool} {s : State} (refused : p = (s, false)) : (byState p).2.code = 2 ∧ (byState p).1 = s := by
  rw [refused]
  exact ⟨rfl, rfl⟩

theorem byState_taken {p : State × Bool} {s : State} (taken : p = (s, true)) : (byState p).2.code = 1 ∧ (byState p).1 = s := by
  rw [taken]
  exact ⟨rfl, rfl⟩

theorem byState_result (p : State × Bool) : (byState p).2.code = 1 ∨ (byState p).2.code = 2 := by
  rw [byState_code]
  cases p.2 <;> simp

theorem byState_unchanged {p : State × Bool} {s : State} (kept : p.2 = false → p.1 = s) (refused : (byState p).2.code ≠ 1) :
    (byState p).1 = s := by
  rw [byState_code] at refused
  cases taken : p.2 with
  | false => exact kept taken
  | true => simp [taken] at refused

theorem clearJam_refused {s : State} (refused : (clearJam s).2 = false) : (clearJam s).1 = s := by
  unfold clearJam at *
  split <;> simp_all

theorem clearJam_jammed {s : State} (jammed : s.transport.state = .jammed) :
    clearJam s = ({ s with transport := { s.transport with
      state := .unhomed, jamCause := none, stepCount := none, position := none, slotInGate := none } }, true) := if_pos jammed

theorem powerOnRequest_unchanged {s : State} (refused : (powerOnRequest 2 s).2 = false) : (powerOnRequest 2 s).1 = s := by
  unfold powerOnRequest at *
  split <;> simp_all

theorem powerOffRequest_unchanged {s : State} (refused : (powerOffRequest 2 s).2 = false) : (powerOffRequest 2 s).1 = s := by
  unfold powerOffRequest at *
  split <;> simp_all

theorem lineReset_unchanged {s : State} (refused : (lineReset s).2 = false) : (lineReset s).1 = s := by
  cases role : s.line.role with
  | follower => simp [lineReset, role]
  | lead =>
    by_cases fault : s.line.state = .lineFault
    · simp [lineReset_fault role fault] at refused
    · simp [lineReset_off role fault] at refused

/-- A code that names no request is UNKNOWN, and changes nothing (R198). -/
theorem controlRequest_unknown {code : Nat} (a : Nat) (b c : Word) (s : State) (unknown : code = 0 ∨ 17 < code) :
    controlRequest code a b c s = (s, .unknown) := by
  rcases unknown with rfl | above
  · rfl
  · obtain ⟨n, rfl⟩ : ∃ n, code = n + 18 := ⟨code - 18, by omega⟩
    rfl

/-- A refused request of the run state, the deck, the tape, a jam, the power or the line leaves the part as it was. -/
theorem controlRequest_refused {code a : Nat} {b c : Word} {s : State} (refused : (controlRequest code a b c s).2.code ≠ 1)
    (asked : code ≤ 3 ∨ code = 5 ∨ 11 ≤ code) : (controlRequest code a b c s).1 = s := by
  by_cases known : code = 0 ∨ 17 < code
  · rw [controlRequest_unknown a b c s known]
  · have range : code = 1 ∨ code = 2 ∨ code = 3 ∨ code = 5 ∨ code = 11 ∨ code = 12 ∨ code = 13 ∨ code = 14 ∨ code = 15 ∨
        code = 16 ∨ code = 17 := by omega
    rcases range with rfl | rfl | rfl | rfl | rfl | rfl | rfl | rfl | rfl | rfl | rfl
    · exact (startRequest_spec s).2.2 refused
    · exact (holdRequest_spec s).2.2 refused
    · exact (resumeRequest_spec s).2.2 refused
    · exact (learnRequest_spec s).2.2 refused
    · by_cases socket : a ≤ 1
      · simp [controlRequest, socket, Result.code] at refused
      · simp [controlRequest, socket]
    · exact (controlDeck_result a _ s).2 refused
    · exact controlWriteCue_unchanged refused
    · exact byState_unchanged clearJam_refused refused
    · exact byState_unchanged powerOnRequest_unchanged refused
    · exact byState_unchanged powerOffRequest_unchanged refused
    · exact byState_unchanged lineReset_unchanged refused

/-- NO_LAMP is posted and flagged, and nothing else changes (R60). -/
theorem postNoLamp_spec (reason socket : Nat) (s : State) :
    postNoLamp reason socket s = { s with log := (postNoLamp reason socket s).log } ∧
      flagOn (postNoLamp reason socket s) .noLamp = true ∧
      (postNoLamp reason socket s).log.ring.getLast? =
        some { sequence := s.log.next, kind := .noLamp, source := .lamp, time := s.clock.showClock, cueNo := 0xFFFF,
               slot := slotByte s.transport.slotInGate, detail1 := toWord reason, detail2 := toWord socket } := by
  obtain ⟨same, -, last⟩ := postGate_spec .noLamp .lamp noCue reason socket s
  refine ⟨?_, by simp [postNoLamp], ?_⟩
  · rw [postNoLamp, same]
    rfl
  · rw [postNoLamp, setFlag_log]
    exact last

/-- LAMP_ON with no GOOD socket (R60). -/
theorem lampOn_nowhere {s : State} (on : s.power.state = .on) (off : s.lamp.state = .off) (primary : s.lamp.primary = .failed)
    (spare : s.lamp.spare = .failed) :
    ∃ v, lampOn s = (v, false) ∧ v = { s with lamp := { s.lamp with state := .fault, goingOff := none }, log := v.log } ∧
      flagOn v .noLamp = true ∧ v.log.ring.getLast? =
        some { sequence := s.log.next, kind := .noLamp, source := .lamp, time := s.clock.showClock, cueNo := 0xFFFF,
               slot := slotByte s.transport.slotInGate, detail1 := 1, detail2 := 0xFFFF } :=
  ⟨_, lampOn_noSocket on off primary spare, postNoLamp_spec 1 65535 _⟩

/-- What LAMP_ON makes of a lamp that is not in FAULT, with mains on (R60, R62). -/
theorem lampOn_dark {s : State} {k : Socket} (on : s.power.state = .on) (off : s.lamp.state = .off)
    (good : socketState s.lamp k = .good)
    (choice : if s.lamp.endPrimary = s.lamp.endSpare then k = .primary ∨ s.lamp.primary = .failed
      else k = s.lamp.active ∨ socketState s.lamp s.lamp.active = .failed) :
    ∃ l, lampOn s = ({ s with lamp := l }, true) ∧ l.active = k ∧ l.duty = 0 ∧ l.goingOff = none ∧ l.level = s.lamp.level ∧
      l.ramp = s.lamp.ramp ∧ (carriagePosition s.lamp = stopOf k → l.state = .lit) ∧
      (carriagePosition s.lamp ≠ stopOf k → l.state = .swapping ∧ l.carriageTimer = some (s.clock.now + 2000000)) := by
  have lights := lampOn_lights on off (chosenSocket_eq_some s.lamp k good choice)
  by_cases stop : stopOf k = carriagePosition s.lamp
  · rw [if_pos stop] at lights
    exact ⟨_, lights, rfl, rfl, rfl, rfl, rfl, fun _ => rfl, fun away => absurd stop.symm away⟩
  · rw [if_neg stop] at lights
    exact ⟨_, lights, rfl, rfl, rfl, rfl, rfl, fun there => absurd there.symm stop, fun _ => ⟨rfl, rfl⟩⟩

/-- A run-up given up with cooldown owed ends in SHUTDOWN (R87). -/
theorem leaveRunup_owed (cause : Nat) {s : State} (owed : s.power.owed = true) :
    (leaveRunup cause s).power.state = .shutdown := by
  obtain ⟨state, kept, -⟩ := setPower_power .shutdown cause s
  have power : (requestStop (setPower .shutdown cause s)).power = (setPower .shutdown cause s).power := by simp
  rw [leaveRunup, if_pos owed, testShutdown_wanting (.inr (.inr (.inr (by rw [power, kept, owed])))), power, state]

/-- As ON is left the show stops (R7, R89). -/
theorem shutdownFromOn_engine (cause : Nat) (s : State) :
    (shutdownFromOn cause s).engine.runState = .stopped ∧ (shutdownFromOn cause s).engine.queue = [] := by
  obtain ⟨stopped, queue, -⟩ := requestStop_engine (setPower .shutdown cause s)
  have lamp : (requestStop (setPower .shutdown cause s)).lamp.state = s.lamp.state := by simp
  have engine (u : State) : (testShutdown u).engine = u.engine := by simp
  rw [shutdownFromOn, engine]
  cases state : s.lamp.state with
  | off => rw [offRequest_out _ _ (.inl (by rw [lamp, state]))]; exact ⟨stopped, queue⟩
  | fault => rw [offRequest_out _ _ (.inr (by rw [lamp, state]))]; exact ⟨stopped, queue⟩
  | lit =>
    obtain ⟨-, -, -, -, heard⟩ := offRequest_lit .power (powerFade s.path.settings) (.inl (lamp.trans state))
    exact ⟨heard.run stopped, heard.queue queue⟩
  | swapping =>
    obtain ⟨-, -, -, -, heard⟩ := offRequest_lit .power (powerFade s.path.settings) (.inr (lamp.trans state))
    exact ⟨heard.run stopped, heard.queue queue⟩

/-- With no cue executing a STOP leaves the lamp (Table 1-6). -/
theorem requestStop_idle {s : State} (idle : s.engine.cue = none) :
    (requestStop s).lamp = s.lamp ∧ (requestStop s).engine.cue = none := by
  simp [requestStop, stopExecuting, idle, setRunState]

/-- POWER_OFF with the lamp up and no cue executing fades it over the power fade, in SHUTDOWN (R89, R91). -/
theorem shutdownFromOn_fades (cause : Nat) {s : State} (up : s.lamp.state = .lit ∨ s.lamp.state = .swapping)
    (idle : s.engine.cue = none) :
    (shutdownFromOn cause s).power.state = .shutdown ∧
      (shutdownFromOn cause s).lamp = markedOff .power (powerFade s.path.settings) s.lamp := by
  obtain ⟨lamp, cue⟩ := requestStop_idle (s := setPower .shutdown cause s) (by simp [idle])
  obtain ⟨w, hw⟩ : ∃ w, w = requestStop (setPower .shutdown cause s) := ⟨_, rfl⟩
  have state : w.power.state = .shutdown := by simp [hw, setPower_power]
  have lamp_ : w.lamp = s.lamp := by rw [hw, lamp]; simp
  have nobody : ∀ e, w.engine.cue = some e → e.awaiting = false := fun e h => by simp [hw, cue] at h
  have faded : offRequest .power (powerFade s.path.settings) w =
      { w with lamp := markedOff .power (powerFade s.path.settings) w.lamp } :=
    offRequest_unheard (by rw [lamp_]; exact up) nobody
  have up_ : (markedOff .power (powerFade s.path.settings) s.lamp).state = .lit ∨
      (markedOff .power (powerFade s.path.settings) s.lamp).state = .swapping := up
  rw [shutdownFromOn, ← hw, faded, lamp_,
    testShutdown_wanting (s := { w with lamp := markedOff .power (powerFade s.path.settings) s.lamp }) (up_.imp id .inl)]
  exact ⟨state, rfl⟩

/-- POWER_OFF with the lamp out, no cycle in flight and no cooldown owed ends in STANDBY at once (R91). -/
theorem shutdownFromOn_dark (cause : Nat) {s : State} (out : s.lamp.state = .off ∨ s.lamp.state = .fault)
    (still : s.transport.state ≠ .cycling) (paid : s.power.owed = false) :
    (shutdownFromOn cause s).power.state = .standby := by
  rw [shutdownFromOn, offRequest_out _ _ (by simpa using out), testShutdown_met]
  · exact (setPower_power _ _ _).1
  · simp [setPower_power]
  · simpa using out
  · rcases setPower_transport_cases .shutdown cause s with e | e <;> simpa [e] using still
  · simp [setPower_power, paid]

/-- Settles O47: the request of each code, by what it asks of the blocks. -/
theorem controlRequestsAreDecided : Obligations.ControlRequestsAreDecided := by
  unfold Obligations.ControlRequestsAreDecided
  intro x q s txn write untouched unseen live bytes flags complete role
  obtain ⟨r, hr⟩ : ∃ r, r = controlRequest (q 0).toNat (q 1).toNat (wordOf (q 2) (q 3)) (wordOf (q 4) (q 5))
      (closed (.write true) s) := ⟨_, rfl⟩
  have ended := transactionEnd_request txn write untouched unseen live bytes flags complete role
  rw [← hr] at ended
  have path : r.1.path = (closed (.write true) s).path := by rw [hr]; simp
  have ask : ∀ n, (q 0).toNat = n → r = controlRequest n (q 1).toNat (wordOf (q 2) (q 3)) (wordOf (q 4) (q 5))
      (closed (.write true) s) := fun n h => by rw [hr, h]
  refine ⟨answered (q 0) r, r.2.code, ended, answered_path path, ?_, ?_, ?_, ?_, ?_, ?_, ?_, ?_, ?_, ?_, ?_, ?_, ?_, ?_, ?_, ?_,
    ?_, ?_, ?_, ?_, ?_, ?_⟩
  · intro unknown
    rw [hr, controlRequest_unknown _ _ _ _ unknown]
    rfl
  · intro hq
    rw [ask 1 hq]
    exact ⟨(startRequest_spec _).1, (startRequest_spec _).2.1⟩
  · intro hq
    rw [ask 2 hq]
    exact ⟨(holdRequest_spec _).1, (holdRequest_spec _).2.1⟩
  · intro hq
    rw [ask 3 hq]
    exact ⟨(resumeRequest_spec _).1, (resumeRequest_spec _).2.1⟩
  · intro hq
    rw [ask 4 hq]
    exact ⟨rfl, (requestStop_engine _).1, (requestStop_engine _).2.1⟩
  · intro hq
    rw [ask 5 hq]
    exact ⟨(learnRequest_spec _).1, (learnRequest_spec _).2.1⟩
  · intro k cue
    have asked : r = controlCue k (closed (.write true) s) ∧ discardedStopped .control k = false := by
      rcases cue with ⟨hq, rfl⟩ | ⟨hq, rfl⟩ | ⟨hq, inTray, rfl⟩
      · exact ⟨ask 6 hq, rfl⟩
      · exact ⟨ask 7 hq, rfl⟩
      · exact ⟨(ask 8 hq).trans (if_neg (Nat.not_lt.mpr inTray)), rfl⟩
    obtain ⟨answer, queued, full⟩ := controlCue_spec (closed (.write true) s) asked.2
    rw [asked.1]
    refine ⟨answer, fun taken => ?_, fun refused => ?_⟩
    · unfold answered
      rw [queued taken]
      rfl
    · unfold answered
      rw [full refused]
      rfl
  · intro hq above
    rw [ask 8 hq]
    exact congrArg (fun p : State × Result => p.2.code) (if_pos above)
  · intro hq
    rw [ask 10 hq]
    rfl
  · intro hq
    rw [ask 11 hq]
    by_cases socket : (q 1).toNat ≤ 1 <;> simp [controlRequest, socket, Result.code]
  · intro hq
    rw [ask 12 hq]
    exact (controlDeck_result _ _ _).1
  · intro hq
    have code : (q 0).toNat = 9 ∨ (q 0).toNat = 14 ∨ (q 0).toNat = 15 ∨ (q 0).toNat = 16 ∨ (q 0).toNat = 17 := by omega
    rcases code with hq | hq | hq | hq | hq <;> (rw [ask _ hq]; exact byState_result _)
  · intro hq
    have asked : r = byState (lampOn (closed (.write true) s)) := ask 9 hq
    rw [asked]
    refine ⟨fun barred => ?_, fun on => ⟨fun up => ?_, fun off primary spare => ?_, fun k off good choice => ?_⟩⟩
    · obtain ⟨result, same⟩ := byState_refused (lampOn_refused (s := closed (.write true) s) barred)
      exact ⟨result, answered_unchanged same⟩
    · obtain ⟨result, same⟩ := byState_taken (lampOn_cancels (s := closed (.write true) s) on up)
      refine ⟨result, ?_⟩
      unfold answered
      rw [same]
      rfl
    · obtain ⟨v, nowhere, rest, flagged, last⟩ := lampOn_nowhere (s := closed (.write true) s) on off primary spare
      rw [nowhere]
      refine ⟨rfl, ?_, ?_, flagged, last⟩
      · unfold answered byState
        rw [rest]
        rfl
      · exact congrArg (fun u : State => u.lamp.state) rest
    · obtain ⟨l, lights, active, duty, going, level, ramp, here, away⟩ :=
        lampOn_dark (s := closed (.write true) s) on off good choice
      obtain ⟨result, same⟩ := byState_taken lights
      unfold answered
      rw [same]
      exact ⟨result, rfl, active, duty, going, level, ramp, here, away⟩
  · intro hq
    have asked : r = (offRequest .control (stopFade s.path.settings) (closed (.write true) s), .taken) := ask 10 hq
    rw [asked]
    refine ⟨fun out => ?_, fun off hoff up => ⟨fun nobody => ?_, fun e cue awaits phase noCycle active engine => ?_⟩⟩
    · exact answered_unchanged (offRequest_out .control _ (s := closed (.write true) s) out)
    · unfold answered
      rw [offRequest_unheard (s := closed (.write true) s) up nobody, hoff]
      rfl
    · rw [hoff]
      exact offRequest_completes (s := closed (.write true) s) up cue awaits phase noCycle active engine
  · intro hq socket
    have asked : r = ((lampReplaced (q 1).toNat (closed (.write true) s)).1, .taken) := (ask 11 hq).trans (if_pos socket)
    rw [asked]
    unfold answered
    rw [lampReplaced_eq _ socket]
    rfl
  · intro hq taken stop
    rw [ask 12 hq] at taken ⊢
    exact controlDeck_moves taken stop
  · intro hq
    have asked : r = byState (clearJam (closed (.write true) s)) := ask 14 hq
    rw [asked]
    refine ⟨fun free => ?_, fun jammed => ?_⟩
    · exact (byState_refused (if_neg free)).1
    · rw [clearJam_jammed (s := closed (.write true) s) jammed]
      exact ⟨rfl, rfl⟩
  · intro hq
    have asked : r = byState (powerOnRequest 2 (closed (.write true) s)) := ask 15 hq
    rw [asked]
    refine ⟨fun up => (byState_refused (powerOnRequest_refused (s := closed (.write true) s) up)).1, fun standby => ?_,
      fun shutdown => ?_⟩
    · have on : powerOnRequest 2 (closed (.write true) s) = (setPower .runup 2 (closed (.write true) s), true) := by
        simp [powerOnRequest, closed, standby]
      obtain ⟨count, timer⟩ := setPower_runup 2 (closed (.write true) s)
      rw [on]
      refine ⟨rfl, ?_, (setPower_power _ _ _).1, count, timer, (setPower_fan _ _ _).2 rfl⟩
      unfold answered byState
      rw [setPower_rest (st := .runup) 2 (s := closed (.write true) s) (by simp [closed, standby])]
      rfl
    · have back : powerOnRequest 2 (closed (.write true) s) = (returnToOn 2 (closed (.write true) s), true) := by
        simp [powerOnRequest, closed, shutdown]
      rw [back]
      refine ⟨rfl, ?_, (setPower_power .on 2 _).1, rfl, rfl⟩
      unfold answered byState returnToOn
      rw [setPower_rest (st := .on) 2 (s := closed (.write true) s) (by simp [closed, shutdown])]
      rfl
  · intro hq
    have asked : r = byState (powerOffRequest 2 (closed (.write true) s)) := ask 16 hq
    rw [asked]
    refine ⟨fun down => (byState_refused (powerOffRequest_refused (s := closed (.write true) s) down)).1,
      fun runup paid => ?_, fun runup owed => ?_, fun on => ?_⟩
    · have off : powerOffRequest 2 (closed (.write true) s) = (setPower .standby 2 (closed (.write true) s), true) := by
        simp [powerOffRequest, closed, runup, leaveRunup, paid]
      rw [off]
      exact ⟨rfl, (setPower_power _ _ _).1, mainsOn_setPower .standby 2 _, by simp [answered, byState, closed],
        by simp [answered, byState, closed]⟩
    · have off : powerOffRequest 2 (closed (.write true) s) = (leaveRunup 2 (closed (.write true) s), true) := by
        simp [powerOffRequest, closed, runup]
      rw [off]
      exact ⟨rfl, leaveRunup_owed 2 (s := closed (.write true) s) owed⟩
    · have off : powerOffRequest 2 (closed (.write true) s) = (shutdownFromOn 2 (closed (.write true) s), true) := by
        simp [powerOffRequest, closed, on]
      rw [off]
      obtain ⟨stopped, queue⟩ := shutdownFromOn_engine 2 (closed (.write true) s)
      have fades := shutdownFromOn_fades 2 (s := closed (.write true) s)
      have dark := shutdownFromOn_dark 2 (s := closed (.write true) s)
      generalize shutdownFromOn 2 (closed (.write true) s) = v at *
      exact ⟨rfl, stopped, queue, fades, dark⟩
  · intro hq
    have asked : r = byState (lineReset (closed (.write true) s)) := ask 17 hq
    rw [asked]
    refine ⟨fun follower => ?_, fun lead => ?_⟩
    · have refused : lineReset (closed (.write true) s) = (closed (.write true) s, false) := by simp [lineReset, closed, follower]
      exact (byState_refused refused).1
    · by_cases fault : s.line.state = .lineFault
      · rw [lineReset_fault (s := closed (.write true) s) lead fault]
        exact ⟨rfl, rfl, rfl, fun _ => rfl, fun other => absurd fault other⟩
      · obtain ⟨taken, state, discharge, retry, settle, count, period, overcurrents, quiet, queue⟩ :=
          lineReset_off (s := closed (.write true) s) lead fault
        exact ⟨by rw [byState_code, taken]; rfl, overcurrents, quiet, fun same => absurd same fault,
          fun _ => ⟨state, discharge, retry, settle, count, period, queue⟩⟩
  · intro hq
    have asked : r = controlWriteCue (q 1).toNat (wordOf (q 2) (q 3)) (wordOf (q 4) (q 5)) (closed (.write true) s) := ask 13 hq
    rw [asked]
    refine ⟨fun stopped => ?_, fun record => ⟨fun bad => ?_, fun low high number => ⟨fun offset => ⟨fun out => ?_,
      fun from_ to_ fits occupied => ?_⟩, fun zero occupied => ?_, fun d from_ to_ fits here free => ?_⟩⟩⟩
    · rw [controlWriteCue_stopped _ _ _ (s := closed (.write true) s) stopped]
      rfl
    · rw [controlWriteCue_bad _ (s := closed (.write true) s) record bad]
      rfl
    · rw [controlWriteCue_refused (s := closed (.write true) s) record ⟨low, high, number⟩
        ((congrArg _ (if_neg offset)).trans (findPlace_range out))]
      rfl
    · rw [controlWriteCue_refused (s := closed (.write true) s) record ⟨low, high, number⟩
        ((congrArg _ (if_neg offset)).trans (findPlace_overlap from_ to_ fits occupied))]
      rfl
    · have short : frameLength (q 1).toNat ≤ 240 := by
        rw [frameLength]
        split <;> omega
      rw [controlWriteCue_refused (s := closed (.write true) s) record ⟨low, high, number⟩
        ((congrArg _ (if_pos zero)).trans (findPlace_noRoom short occupied))]
      rfl
    · rw [controlWriteCue_placed (s := closed (.write true) s) record ⟨low, high, number⟩
        (findPlace_free from_ to_ fits here free)]
      obtain ⟨writer, cells, others, last, rest⟩ := written_spec (q 1).toNat (wordOf (q 2) (q 3)) d (closed (.write true) s)
      refine ⟨rfl, writer, cells, others, last, ?_⟩
      unfold answered
      rw [rest]
      rfl
  · rintro (zero | above | ⟨refused, asked⟩ | ⟨hq, outside⟩)
    · refine answered_unchanged ?_
      rw [hr, controlRequest_unknown _ _ _ _ (.inl zero)]
    · refine answered_unchanged ?_
      rw [hr, controlRequest_unknown _ _ _ _ (.inr above)]
    · refine answered_unchanged ?_
      rw [hr] at refused ⊢
      exact controlRequest_refused refused asked
    · refine answered_unchanged ?_
      rw [ask 8 hq]
      exact congrArg Prod.fst (if_pos outside)

end Sys2Proof.Machine
end

section
/-! PROOFS. What each shared operation can add to the log, counted against the cues and broadcasts that wait. -/

namespace Sys2Proof.Machine

set_option Elab.async false

variable {n : Nat} {s t u : State}

/-! ### Entries paid for by what waits (R8, R156, R202)

An operation adds a fixed number of entries at most, but for those that empty a queue and log each item in it. So the
items that wait are counted with the entries: an item that is queued costs one, and pays for the entry that drops it. -/

/-- The cues and the broadcasts that wait. -/
def waiting (s : State) : Nat := s.engine.queue.length + s.line.queue.length

/-- Log entries and newly waiting items together are at most `n`. -/
def Costs (n : Nat) (s t : State) : Prop := ∃ new, Adds new s t ∧ new.length + waiting t ≤ waiting s + n

theorem Costs.refl (s : State) : Costs 0 s s := ⟨[], .of_same rfl rfl, by simp⟩

theorem Costs.le {m : Nat} (h : Costs n s t) (le : n ≤ m := by omega) : Costs m s t := by
  obtain ⟨new, added, few⟩ := h
  exact ⟨new, added, by omega⟩

theorem Costs.trans {m : Nat} (h : Costs n s t) (k : Costs m t u) : Costs (n + m) s u := by
  obtain ⟨new, added, few⟩ := h
  obtain ⟨more, added', few'⟩ := k
  exact ⟨new ++ more, added.trans added', by rw [List.length_append]; omega⟩

/-- What leaves the log and both queues alone costs nothing. -/
theorem Costs.same (h : Costs n s t) (log : u.log = t.log := by simp) (cues : u.engine.queue = t.engine.queue := by simp)
    (casts : u.line.queue = t.line.queue := by simp) : Costs n s u := by
  obtain ⟨new, added, few⟩ := h
  exact ⟨new, ⟨by rw [log, added.next], added.numbers, fun room => by rw [log, added.ring room]⟩,
    by simpa only [waiting, cues, casts] using few⟩

theorem Costs.post (h : Costs n s t) (k : LogKind) (src : LogSource) (cueNo : Word) (slot : Byte) (d1 d2 : Nat) :
    Costs (n + 1) s (post k src cueNo slot d1 d2 t) :=
  h.trans ⟨_, post_adds k src cueNo slot d1 d2 t, by simp [waiting]; omega⟩

theorem Costs.postGate (h : Costs n s t) (k : LogKind) (src : LogSource) (cueNo : Word) (d1 d2 : Nat) :
    Costs (n + 1) s (postGate k src cueNo d1 d2 t) := h.post _ _ _ _ _ _

/-- Setting a flag makes no entry. -/
theorem Costs.setFlag (h : Costs n s t) (f : FaultFlag) : Costs n s (setFlag f t) := by
  obtain ⟨new, added, few⟩ := h
  exact ⟨new, ⟨added.next, added.numbers, added.ring⟩, few⟩

/-! ### The line (R155, R156, R160) -/

theorem Costs.chooseFrame (h : Costs n s t) : Costs n s (chooseFrame t) := by
  refine h.same (casts := ?_)
  unfold Machine.chooseFrame
  (repeat' split) <;> rfl

theorem Costs.enterIdle (h : Costs n s t) : Costs n s (enterIdle t) := Costs.chooseFrame h.same

theorem Costs.postBroadcast (h : Costs n s t) (m : LineMsg) : Costs (n + 1) s (postBroadcast m t) := by
  unfold Machine.postBroadcast
  split
  · exact h.postGate _ _ _ _ _
  · split
    · exact .chooseFrame (h.trans ⟨[], .of_same rfl rfl, by simp [waiting]; omega⟩)
    · exact h.postGate _ _ _ _ _

theorem Costs.announce (h : Costs n s t) (m : LineMsg) : Costs (n + 1) s (announce m t) := by
  unfold Machine.announce
  split
  · exact h.postBroadcast m
  · exact h.le

theorem Costs.postAllDropped (h : Costs n s t) (ms : List LineMsg) : Costs (n + ms.length) s (postAllDropped ms t) := by
  induction ms generalizing n t with
  | nil => exact h
  | cons m ms ih => exact (ih (h.postGate _ _ _ _ _)).le (by simp only [List.length_cons]; omega)

/-- What is taken out of a queue pays for the entries that follow. -/
theorem Costs.paid {k : Nat} (h : Costs k t u) (log : t.log = s.log) (fewer : waiting t + k ≤ waiting s + n) :
    Costs n s u := by
  obtain ⟨new, added, few⟩ := h
  exact ⟨new, ⟨by rw [added.next, log], fun i e => log ▸ added.numbers i e, fun room => by
    rw [added.ring (log ▸ room), log]⟩, by omega⟩

theorem dropBroadcasts_costs (s : State) : Costs 0 s (dropBroadcasts s) :=
  ((Costs.refl _).postAllDropped s.line.queue).paid rfl (by simp [waiting])

theorem Costs.dropBroadcasts (h : Costs n s t) : Costs n s (dropBroadcasts t) := h.trans (dropBroadcasts_costs t)

theorem Costs.setStation (h : Costs n s t) (k : Nat) (st : Station) :
    Costs n s { t with line := setStation t.line k st } :=
  h.same (casts := (setStation_frame t.line k st).2.2.1)

theorem Costs.stationLost (h : Costs n s t) (k : Nat) (st : Station) : Costs (n + 1) s (stationLost k st t) :=
  (h.postGate _ _ _ _ _).setFlag _

theorem Costs.dropStation (h : Costs n s t) (k : Nat) : Costs (n + 1) s (dropStation k t) := by
  unfold Machine.dropStation
  dsimp only
  split
  · exact (h.setStation _ _).stationLost _ _
  · exact (h.setStation _ _).le

theorem Costs.lineWithoutFollowers (h : Costs n s t) : Costs (n + 4) s (lineWithoutFollowers t) :=
  ((((h.dropStation 0).dropStation 1).dropStation 2).dropStation 3).dropBroadcasts

/-! ### The cue queue and the run state (R5, R6, R8, R25) -/

theorem Costs.postCuesDropped (h : Costs n s t) (cs : List Cue) : Costs (n + cs.length) s (postCuesDropped cs t) := by
  induction cs generalizing n t with
  | nil => exact h
  | cons c cs ih => exact (ih (h.postGate _ _ _ _ _)).le (by simp only [List.length_cons]; omega)

theorem clearQueue_costs (s : State) : Costs 0 s (clearQueue s) :=
  ((Costs.refl _).postCuesDropped s.engine.queue).paid rfl (by simp [waiting]; omega)

theorem Costs.clearQueue (h : Costs n s t) : Costs n s (clearQueue t) := h.trans (clearQueue_costs t)

theorem Costs.postCue (h : Costs n s t) (src : CueSource) (k : CueKind) (start : Option Clock32) :
    Costs (n + 1) s (postCue src k start t).1 := by
  unfold Machine.postCue
  split
  · exact h.le
  · split
    · exact h.trans ⟨[], .of_same rfl rfl, by simp [waiting]; omega⟩
    · exact h.postGate _ _ _ _ _

theorem Costs.setCue (h : Costs n s t) (e : Option Executing) : Costs n s { t with engine := { t.engine with cue := e } } :=
  h.same

theorem Costs.noExecuting (h : Costs n s t) : Costs n s (noExecuting t) := h.same

theorem Costs.setRamp (h : Costs n s t) (target time : Nat) (r : Requester) : Costs n s (setRamp target time r t) := h.same

theorem Costs.engineRampUnowned (h : Costs n s t) (target time : Nat) : Costs n s (engineRampUnowned target time t) :=
  h.same

theorem Costs.deckRequest (h : Costs n s t) (m : DeckMode) : Costs n s (deckRequest m t) := h.same

theorem Costs.setRunState (h : Costs n s t) (r : RunState) : Costs n s (setRunState r t) := h.same

theorem Costs.fadeAudioOut (h : Costs n s t) : Costs n s (fadeAudioOut t) := h.same

theorem Costs.holdShow (h : Costs n s t) : Costs n s (holdShow t) := by
  unfold Machine.holdShow
  split
  · exact (h.setRunState _).deckRequest _
  · exact (h.setRunState _).deckRequest _
  · exact h

theorem Costs.holdRunning (h : Costs n s t) : Costs n s (holdRunning t) := by
  unfold Machine.holdRunning
  split
  · exact (h.setRunState _).deckRequest _
  · exact h

theorem Costs.finishStopping (h : Costs n s t) : Costs n s (finishStopping t) := by
  unfold Machine.finishStopping
  dsimp only
  split
  · exact h.noExecuting
  · exact h.noExecuting.engineRampUnowned _ _

theorem Costs.completeCue (h : Costs n s t) (e : Executing) : Costs (n + 1) s (completeCue e t) :=
  (h.postGate _ _ _ _ _).noExecuting

theorem Costs.postExecutingDropped (h : Costs n s t) (e : Executing) (phase : Nat) :
    Costs (n + 1) s (postExecutingDropped e phase t) := h.postGate _ _ _ _ _

theorem Costs.stopExecuting (h : Costs n s t) : Costs (n + 1) s (stopExecuting t) := by
  unfold Machine.stopExecuting
  split
  · exact h.le
  · split
    · exact h.le.same
    · have logged := fun e p => h.postExecutingDropped e p
      dsimp only
      split
      · exact (logged _ _).noExecuting
      · exact ((logged _ _).engineRampUnowned _ _).noExecuting
      · exact (logged _ _).setCue _
      · split
        · exact ((logged _ _).engineRampUnowned _ _).setCue _
        · exact ((logged _ _).engineRampUnowned _ _).noExecuting

theorem Costs.setAudio (h : Costs n s t) (a : Nat) : Costs n s (setAudio a t) := h.same

theorem Costs.requestStart (h : Costs n s t) : Costs n s (requestStart t).1 := by
  unfold Machine.requestStart
  split
  · exact ((h.setRunState _).deckRequest _).setAudio _
  · exact h

theorem Costs.requestHold (h : Costs n s t) : Costs (n + 1) s (requestHold t).1 := by
  unfold Machine.requestHold
  split
  · exact ((h.setRunState _).deckRequest _).announce _
  · exact h.le

theorem Costs.requestResume (h : Costs n s t) : Costs (n + 1) s (requestResume t).1 := by
  unfold Machine.requestResume
  split
  · exact ((h.setRunState _).deckRequest _).announce _
  · exact h.le

theorem Costs.requestStop (h : Costs n s t) : Costs (n + 2) s (requestStop t) := by
  exact ((h.setRunState _).clearQueue.deckRequest _).fadeAudioOut.stopExecuting.announce _

theorem Costs.abortCycle (h : Costs n s t) : Costs (n + 1) s (abortCycle t) := by
  unfold Machine.abortCycle
  refine .clearQueue (.holdShow ?_)
  split
  · split
    · exact h.le
    · split
      · exact h.finishStopping.le
      · exact (h.postExecutingDropped _ _).noExecuting
  · exact h.le

/-! ### The executing cue (R19, R20) -/

theorem Costs.enterFadingIn (h : Costs n s t) (e : Executing) : Costs (n + 1) s (enterFadingIn e t) := by
  unfold Machine.enterFadingIn
  split
  · split
    · exact (h.setCue _).le
    · exact h.completeCue _
  · exact ((h.setCue _).setRamp _ _ _).le

theorem Costs.cycleDone (h : Costs n s t) (seat : Option Clock32) : Costs (n + 1) s (cycleDone seat t) := by
  unfold Machine.cycleDone
  split
  · exact h.le
  · split
    · exact h.le
    · split
      · exact h.finishStopping.le
      · dsimp only
        split
        · exact h.enterFadingIn _
        · split
          · exact (h.setCue _).le
          · exact h.completeCue _
        · exact (h.setCue _).le

theorem Costs.dropStarted (h : Costs n s t) : Costs (n + 1) s (dropStarted t) := by
  unfold Machine.dropStarted
  split
  · split
    · exact h.enterFadingIn _
    · exact h.le
  · exact h.le

/-! ### The power state (R85, R91, R99) -/

theorem Costs.setPower (h : Costs n s t) (st : PowerState) (cause : Nat) : Costs (n + 1) s (setPower st cause t) :=
  (h.postGate _ _ _ _ _).same (setPower_log st cause t)

theorem Costs.testShutdown (h : Costs n s t) : Costs (n + 1) s (testShutdown t) := by
  rcases testShutdown_cases t with ⟨-, e⟩ | ⟨-, e⟩
  · rw [e]; exact h.le
  · rw [e]; exact h.setPower _ _

theorem Costs.oweCooldown (h : Costs n s t) : Costs (n + 3) s (oweCooldown t) := by
  have owing (f : Nat) (p : Power) : Costs n s (setFan f { t with power := p }) := h.same
  unfold Machine.oweCooldown
  dsimp only
  split
  · exact ((owing _ _).setPower _ _).requestStop
  · exact (owing _ _).le

/-! ### The transport's cycle (R30 to R50) -/

theorem Costs.setTransport (h : Costs n s t) (x : Transport) : Costs n s { t with transport := x } := h.same

theorem Costs.latchTable (h : Costs n s t) : Costs n s (latchTable t) := by
  unfold Machine.latchTable
  dsimp only
  split
  · exact h.setTransport _
  · exact (h.setTransport _).setFlag _

theorem Costs.jam (h : Costs n s t) (c : JamCause) : Costs (n + 3) s (jam c t) := by
  have flagged := (h.post .jam .transport noCue (toByte t.transport.target) c.code (t.transport.camAngle.getD 65535)).setFlag .jam
  exact (flagged.setTransport _).abortCycle.testShutdown

theorem Costs.postHandset (h : Costs n s t) (k : CueKind) : Costs (n + 1) s (postHandset k t) := by
  have posted := h.postCue .handset k none
  unfold Machine.postHandset
  dsimp only
  split
  · exact posted.same
  · exact posted

theorem Costs.completeCycle (h : Costs n s t) : Costs (n + 3) s (completeCycle t) := by
  unfold Machine.completeCycle
  extract_lets x s1 x1 s2 s3
  have stopped : Costs n s s2 := by
    unfold s2
    split <;> exact h.setTransport _
  have done : Costs (n + 2) s s3 := (stopped.cycleDone _).testShutdown
  split
  · exact done.postHandset _
  · exact done.le

theorem Costs.seatMade (h : Costs n s t) : Costs (n + 3) s (seatMade t) := (h.setTransport _).completeCycle

theorem Costs.enterSeat (h : Costs n s t) : Costs (n + 3) s (enterSeat t) := by
  unfold Machine.enterSeat
  dsimp only
  split
  · exact (h.setTransport _).seatMade
  · split
    · exact (h.setTransport _).completeCycle
    · exact (h.setTransport _).le

theorem Costs.enterDrop (h : Costs n s t) : Costs (n + 1) s (enterDrop t) := (h.setTransport _).dropStarted

theorem Costs.moveEnded (h : Costs n s t) : Costs (n + 1) s (moveEnded t) := by
  unfold Machine.moveEnded
  dsimp only
  split
  · exact (h.setTransport _).enterDrop
  · exact (h.setTransport _).le

theorem Costs.liftCheck (h : Costs n s t) : Costs (n + 3) s (liftCheck t) := by
  unfold Machine.liftCheck
  split
  · exact h.jam _
  · exact h.le

theorem Costs.startRevolution (h : Costs n s t) : Costs n s (startRevolution t) := h.same

theorem Costs.focusGuard (h : Costs n s t) : Costs n s (focusGuard t) := h.same

theorem Costs.beginMove (h : Costs n s t) (wait : MoveStatus) (v : Move) : Costs n s (beginMove wait v t) := h.same

theorem Costs.startNormal (h : Costs n s t) (v : Transport → Move) : Costs (n + 3) s (startNormal v t) := by
  unfold Machine.startNormal
  extract_lets s1 x s2 s3
  have started : Costs n s s3 := ((h.latchTable.setTransport _).startRevolution.beginMove _ _).focusGuard
  split
  · split
    · exact started.liftCheck
    · exact started.le
  · exact started.le

theorem Costs.enterCycling (h : Costs n s t) (target : Nat) : Costs n s (enterCycling target t) :=
  h.setTransport _

theorem Costs.startHoming (h : Costs n s t) (r : ChangeRequest) : Costs (n + 3) s (startHoming r t) := by
  unfold Machine.startHoming
  dsimp only
  split
  · exact (h.enterCycling _).startNormal _
  · exact (((h.enterCycling _).setTransport _).startRevolution.focusGuard).le

theorem Costs.changeRequest (h : Costs n s t) (r : ChangeRequest) : Costs (n + 3) s (changeRequest r t) := by
  unfold Machine.changeRequest
  split
  · exact (h.enterCycling _).startNormal _
  · exact h.startHoming r
  · exact h.le
  · exact h.abortCycle.le

theorem Costs.enterChanging (h : Costs n s t) (e : Executing) : Costs (n + 3) s (enterChanging e t) :=
  (h.setCue _).changeRequest _

theorem Costs.enterFadingOut (h : Costs n s t) (e : Executing) : Costs (n + 3) s (enterFadingOut e t) := by
  unfold Machine.enterFadingOut
  split
  · exact h.enterChanging _
  · exact ((h.setCue _).setRamp _ _ _).le

theorem Costs.engineRampDone (h : Costs n s t) : Costs (n + 3) s (engineRampDone t) := by
  unfold Machine.engineRampDone
  split
  · exact h.le
  · split
    · exact h.le
    · dsimp only
      split
      · exact h.enterChanging _
      · split
        · exact (h.setCue _).le
        · exact (h.completeCue _).le
      · exact (h.setCue _).le

/-! ### The lamp (R58 to R80) -/

theorem Costs.setLamp (h : Costs n s t) (x : Lamp) : Costs n s { t with lamp := x } := h.same

theorem Costs.leaveLit (h : Costs n s t) (st : LampState) : Costs (n + 4) s (leaveLit st t) := by
  refine Costs.testShutdown (n := n + 3) ?_
  unfold leftLit
  split
  · exact (h.setLamp _).oweCooldown
  · exact (h.setLamp _).le

theorem Costs.rampDone (h : Costs n s t) : Costs (n + 4) s (rampDone t) := by
  unfold Machine.rampDone
  dsimp only
  split
  · exact (h.setLamp _).engineRampDone.le
  · unfold offRampDone
    split
    · exact ((h.setLamp _).setLamp _).leaveLit _
    · exact (h.setLamp _).le
  · exact (h.setLamp _).le

theorem Costs.rampStage (h : Costs n s t) : Costs (n + 4) s (rampStage t) := by
  unfold Machine.rampStage
  dsimp only
  split
  · exact h.le
  · split
    · exact (h.setLamp _).le
    · exact h.rampDone

theorem Costs.offRequest (h : Costs n s t) (who : OffRequest) (time : Nat) : Costs (n + 3) s (offRequest who time t) := by
  unfold Machine.offRequest
  split
  · dsimp only
    split
    · exact ((h.setRamp _ _ _).setLamp _).engineRampDone
    · exact ((h.setRamp _ _ _).setLamp _).le
  · exact h.le

theorem Costs.postNoLamp (h : Costs n s t) (reason socket : Nat) : Costs (n + 1) s (postNoLamp reason socket t) :=
  (h.postGate _ _ _ _ _).setFlag _

theorem Costs.startSwap (h : Costs n s t) (x : Socket) (failure : Bool) : Costs n s (startSwap x failure t) := h.same

theorem Costs.followCarriage (h : Costs n s t) : Costs n s (followCarriage t) := h.same

theorem Costs.carriageArrived (h : Costs n s t) : Costs (n + 2) s (carriageArrived t) := by
  unfold Machine.carriageArrived
  extract_lets travel s1 s2
  have arrived : Costs (n + 1) s s1 := by
    unfold s1
    split
    · exact h.postGate _ _ _ _ _
    · exact h.le
  split
  · exact (arrived.setLamp _).testShutdown
  · exact (arrived.setLamp _).le

theorem Costs.socketFails (h : Costs n s t) (kind : Failure) : Costs (n + 6) s (socketFails kind t) := by
  unfold Machine.socketFails
  extract_lets x s1
  have failed : Costs (n + 1) s s1 := ((h.setLamp _).postGate _ _ _ _ _).setFlag _
  split
  · exact ((failed.leaveLit _).startSwap _ _).le
  · exact ((failed.setLamp _).leaveLit _).postNoLamp _ _

theorem Costs.lampOn (h : Costs n s t) : Costs (n + 1) s (lampOn t).1 := by
  unfold Machine.lampOn
  split
  · exact h.le
  · split
    · exact h.le
    · exact (h.setLamp _).le
    · exact (h.setLamp _).le
    · split
      · exact (h.setLamp _).postNoLamp _ _
      · split
        · exact (h.setLamp _).le
        · exact ((h.setLamp _).startSwap _ _).le

theorem Costs.postLowSupply (h : Costs n s t) (vs : Nat) : Costs (n + 1) s (postLowSupply vs t) :=
  (h.postGate _ _ _ _ _).setFlag _

theorem Costs.dutyStage (h : Costs n s t) (vs : Nat) : Costs (n + 1) s (dutyStage vs t) := by
  unfold Machine.dutyStage
  split
  · refine Costs.setLamp ?_ _
    unfold countLowSupply
    split
    · dsimp only
      split
      · exact (h.setLamp _).postLowSupply _
      · exact (h.setLamp _).le
    · exact (h.setLamp _).le
  · exact (h.setLamp _).le

theorem Costs.currentTest (h : Costs n s t) (im : Nat) : Costs (n + 6) s (currentTest im t) := by
  unfold Machine.currentTest
  split
  · exact (h.setLamp _).le
  · split
    · exact h.socketFails _
    · split
      · split
        · exact h.socketFails _
        · exact (h.setLamp _).le
      · exact (h.setLamp _).le

/-! ### The power key and the run-up (R86 to R91) -/

theorem Costs.setPowerRecord (h : Costs n s t) (x : Power) : Costs n s { t with power := x } := h.same

theorem Costs.leaveRunup (h : Costs n s t) (cause : Nat) : Costs (n + 4) s (leaveRunup cause t) := by
  unfold Machine.leaveRunup
  split
  · exact (h.setPower _ _).requestStop.testShutdown
  · exact (h.setPower _ _).le

theorem Costs.powerKeyPressed (h : Costs n s t) : Costs (n + 7) s (powerKeyPressed t) := by
  unfold Machine.powerKeyPressed
  split
  · exact (h.setPower _ _).le
  · exact (h.leaveRunup _).le
  · exact ((h.setPower _ _).requestStop.offRequest _ _).testShutdown
  · exact ((h.setPower _ _).setPowerRecord _).le

theorem Costs.runupReading (h : Costs n s t) (vs : Nat) : Costs (n + 1) s (runupReading vs t) := by
  unfold Machine.runupReading
  split
  · exact h.le
  · split
    · dsimp only
      split
      · exact (h.setPowerRecord _).setPower _ _
      · exact (h.setPowerRecord _).le
    · exact (h.setPowerRecord _).le

/-! ### The handset (R168 to R176) -/

theorem Costs.setHandset (h : Costs n s t) (x : Handset) : Costs n s { t with handset := x } := h.same

theorem Costs.keyEffect (h : Costs n s t) (k : Key) : Costs (n + 1) s (keyEffect t k) := by
  unfold Machine.keyEffect
  split
  · exact h.postHandset _
  · exact h.postHandset _
  · exact h.le
  · exact h.le
  · unfold keyGo
    dsimp only
    split
    · exact (h.setHandset _).le
    · split
      · exact ((h.setHandset _).setHandset _).le
      · exact (h.setHandset _).postHandset _
  · exact Costs.same (t := Machine.setEntry [] t) (h.setHandset _).le
  · unfold keyRunHold
    split
    · exact h.requestStart.le
    · exact h.requestHold
    · exact h.requestResume
    · exact (h.setHandset _).le
  · unfold keyLamp
    split
    · dsimp only
      split
      · exact h.lampOn
      · exact h.lampOn.setHandset _
    · exact (h.setHandset _).le
    · exact (h.setHandset _).le
    · exact (h.setHandset _).le
  · exact (h.setHandset _).le

theorem Costs.handsetReport (h : Costs n s t) (r : HandsetReport) : Costs (n + 1) s (handsetReport r t) := by
  unfold Machine.handsetReport
  extract_lets pressed s1 s2
  have recorded : Costs n s s1 := h.setHandset _
  have keyed : Costs (n + 1) s s2 := by
    unfold s2
    split
    · split
      · split
        · exact ((recorded.setHandset _).keyEffect _).setHandset _
        · exact recorded.le
      · exact recorded.le
    · exact recorded.le
  exact keyed.same

end Sys2Proof.Machine
end

section
/-! PROOFS. What each command can add to the log, and the log entries it leaves as they are. -/

namespace Sys2Proof.Machine

set_option Elab.async false

variable {n : Nat} {s t u : State}

/-! ### Leaving the powered line, and the replies (R148, R150 to R154, R160) -/

theorem Costs.setLine (h : Costs n s t) (x : Line) (kept : x.queue = t.line.queue := by simp) :
    Costs n s { t with line := x } := h.same (casts := kept)

theorem Costs.leavePowered (h : Costs n s t) (st : LineState) : Costs (n + 5) s (leavePowered st t) := by
  have left := (h.setLine (abandonLine st t.line) rfl).handsetReport none
  unfold Machine.leavePowered
  dsimp only
  split
  · exact left.le
  · exact left.lineWithoutFollowers

theorem Costs.overcurrent (h : Costs n s t) : Costs (n + 6) s (overcurrent t) := by
  unfold Machine.overcurrent
  dsimp only
  split
  · exact ((h.leavePowered _).setLine _).le
  · exact (((h.leavePowered _).setLine _).postGate _ _ _ _ _).setFlag _

theorem Costs.noAnswer (h : Costs n s t) : Costs (n + 5) s (noAnswer t) := (h.leavePowered _).setLine _

theorem Costs.goodReply (h : Costs n s t) (k : Nat) (d : List Byte) : Costs (n + 1) s (goodReply k d t) := by
  unfold Machine.goodReply
  dsimp only
  have answered := h.setLine { Machine.setStation t.line k { present := true, misses := 0, last := some d } with
    noAnswer := startTimer tenSeconds t, pollList := t.line.pollList.drop 1 } (setStation_frame t.line k _).2.2.1
  unfold reportData
  split
  · exact answered.handsetReport _
  · exact answered.le

theorem Costs.missedReply (h : Costs n s t) (k : Nat) : Costs (n + 1) s (missedReply k t) := by
  unfold Machine.missedReply
  extract_lets st misses l s1
  have missed : Costs n s s1 := h.setLine _ (setStation_frame t.line k _).2.2.1
  split
  · exact missed.handsetReport _
  · split
    · exact missed.stationLost _ _
    · exact missed.le

theorem Costs.takeReply (h : Costs n s t) (rx : LineRx) (k : Nat) : Costs (n + 1) s (takeReply rx k t) := by
  unfold Machine.takeReply
  split
  · split
    · exact (h.goodReply _ _).enterIdle
    · exact (h.missedReply _).enterIdle
  · exact (h.missedReply _).enterIdle
  · exact (h.missedReply _).setLine _

theorem Costs.fillPolls (h : Costs n s t) : Costs n s (fillPolls t) := by
  unfold Machine.fillPolls
  split
  · exact h
  · split
    · exact h.setLine _
    · exact h.setLine _

/-- The broadcast sent leaves its queue (R155). -/
theorem Costs.frameSent (h : Costs n s t) : Costs n s (frameSent t) := by
  unfold Machine.frameSent
  split
  · exact h.setLine _
  · exact (h.setLine _).enterIdle
  · refine h.trans (m := 0) (Costs.paid (t := { t with line := { t.line with queue := t.line.queue.drop 1 } })
      (Costs.refl _).enterIdle rfl ?_)
    simp [waiting]
  · exact h.enterIdle

/-! ### The execution of a cue (R10 to R22) -/

theorem Costs.cutFade (h : Costs n s t) : Costs (n + 1) s (cutFade t) := by
  unfold Machine.cutFade
  split
  · exact h.le
  · exact (h.postGate _ _ _ _ _).noExecuting

theorem Costs.endShow (h : Costs n s t) (time : Nat) : Costs n s (endShow time t) :=
  (((h.engineRampUnowned _ _).deckRequest _).fadeAudioOut.clearQueue).setRunState _

theorem Costs.entryAudio (h : Costs n s t) (p : Plan) : Costs n s (entryAudio p t) := h.same

theorem Costs.startCue (h : Costs n s t) (e : Executing) : Costs (n + 3) s (startCue e t) := by
  have action {u : State} (k : Costs n s u) (x : Executing) : Costs (n + 3) s (startAction x u) := by
    unfold startAction
    split
    · exact (k.completeCue _).le
    · exact (k.completeCue _).le
    · exact (k.holdRunning.completeCue _).le
    · exact ((k.endShow _).completeCue _).le
    · exact (k.enterFadingIn _).le
    · exact k.enterFadingOut _
    · exact k.enterFadingOut _
    · exact k.enterFadingOut _
  unfold Machine.startCue
  extract_lets x e1 s1
  have noted : Costs n s s1 := by
    unfold s1
    split
    · exact h.same rfl rfl rfl
    · exact h
  exact action ((noted.setCue _).entryAudio _) _

theorem Costs.checkLate (h : Costs n s t) (c : Cue) (cueNo : Word) (start : Clock32) :
    Costs (n + 1) s (checkLate c cueNo start t) := by
  unfold Machine.checkLate
  dsimp only
  split
  · exact h.postGate _ _ _ _ _
  · exact h.le

theorem Costs.checkDrift (h : Costs n s t) (src : CueSource) (p : Plan) : Costs (n + 1) s (checkDrift src p t) := by
  unfold Machine.checkDrift
  split
  · split
    · exact h.postGate _ _ _ _ _
    · exact h.le
  · exact h.le

theorem Costs.placeFrame (h : Costs n s t) (src : CueSource) (kind : Nat) (data : Word) (offset : Option Nat) :
    Costs (n + 1) s (placeFrame src kind data offset t).1 := by
  unfold Machine.placeFrame
  split
  · exact h.le
  · split
    · exact h.le
    · have written (w : Writer) : Costs n s { t with writer := w } := h.same
      exact (written _).postGate _ _ _ _ _

theorem Costs.learnPlacement (h : Costs n s t) (c : Cue) (p : Plan) : Costs (n + 2) s (learnPlacement c p t) := by
  unfold Machine.learnPlacement
  split
  · split
    · exact (h.postGate _ _ _ _ _).le
    · have placed := h.placeFrame .handset 3 p.cueNo none
      dsimp only
      split
      · exact placed.le
      · exact placed.postGate _ _ _ _ _
  · exact h.le

theorem Costs.beginExecution (h : Costs n s t) (c : Cue) (p : Plan) (msg : Option LineMsg) :
    Costs (n + 8) s (beginExecution c p msg t) := by
  unfold Machine.beginExecution
  extract_lets announced start e s1 e1 s2 s3 s4
  have cut : Costs (n + 1) s s2 := h.cutFade.setCue _
  have told : Costs (n + 2) s s3 := by
    unfold s3
    split
    · exact cut.announce _
    · exact cut.le
  have placed : Costs (n + 5) s s4 := (told.learnPlacement c p).checkLate _ _ _
  split
  · exact placed.startCue _
  · exact placed.le

theorem Costs.takeEntry (h : Costs n s t) (c : Cue) (j : Nat) : Costs (n + 9) s (takeEntry c j t) := by
  have moved (k : Nat) : Costs n s { t with engine := { t.engine with pointer := k } } := h.same
  unfold Machine.takeEntry
  dsimp only
  split
  · exact ((moved _).postGate _ _ _ _ _).le
  · exact ((moved _).checkDrift _ _).beginExecution _ _ _

theorem Costs.takeNumbered (h : Costs n s t) (c : Cue) (number : Word) : Costs (n + 10) s (takeNumbered c number t) := by
  unfold Machine.takeNumbered
  split
  · exact h.le
  · dsimp only
    split
    · exact (h.postGate _ _ _ _ _).le
    · refine Costs.takeEntry ?_ _ _
      split
      · exact h.postGate _ _ _ _ _
      · exact h.le

theorem Costs.takeAdvance (h : Costs n s t) (c : Cue) : Costs (n + 9) s (takeAdvance c t) := by
  unfold Machine.takeAdvance
  dsimp only
  split
  · exact (h.beginExecution _ _ _).le
  · split
    · exact h.takeEntry _ _
    · exact (h.beginExecution _ _ _).le

theorem Costs.resolveCue (h : Costs n s t) (c : Cue) : Costs (n + 10) s (resolveCue c t) := by
  unfold Machine.resolveCue
  split
  · exact h.takeNumbered _ _
  · exact (h.takeAdvance _).le
  · exact (h.beginExecution _ _ _).le
  · unfold takeGoto
    split
    · exact (h.postGate _ _ _ _ _).le
    · exact (h.beginExecution _ _ _).le
  · exact (h.announce _).holdRunning.le
  · exact ((h.cutFade.announce _).endShow _).le

/-! ### Tray moves, the index edge and the cam (R32 to R42) -/

theorem Costs.setMove (h : Costs n s t) (v : Move) : Costs n s (setMove v t) := h.setTransport _

theorem Costs.dueStep (h : Costs n s t) (v : Move) : Costs (n + 1) s (dueStep v t) := by
  unfold Machine.dueStep
  split
  · exact (h.setTransport _).le
  · split
    · exact h.le.same
    · unfold moveStep
      dsimp only
      split
      · exact ((h.setTransport _).setMove _).moveEnded
      · exact ((h.setTransport _).setTransport _).le

theorem Costs.replaceMove (h : Costs n s t) (old : MoveStatus) (v : Move) : Costs (n + 1) s (replaceMove old v t) := by
  unfold Machine.replaceMove
  split
  · exact (h.setTransport _).moveEnded
  · split
    · exact (h.setMove _).le
    · exact (h.beginMove _ _).le

theorem Costs.resync (h : Costs n s t) (v : Move) : Costs (n + 2) s (resync v t) := by
  unfold Machine.resync
  extract_lets half e s1 s2 left
  have synced : Costs (n + 1) s s1 := by
    unfold s1
    split
    · exact h.le
    · exact (h.post _ _ _ _ _ _).setFlag _
  split
  · exact (synced.setTransport _).replaceMove _ _
  · split
    · exact (synced.setTransport _).replaceMove _ _
    · exact ((synced.setTransport _).setMove _).le

theorem Costs.camAdvanced (h : Costs n s t) (tab : CamTable) (a b : Nat) : Costs (n + 3) s (camAdvanced tab a b t) := by
  have woken : Costs n s (wakeMove t) := h.same
  unfold Machine.camAdvanced
  split
  · exact h.jam _
  · refine Costs.focusGuard ?_
    split
    · unfold reachPark
      split
      · exact woken.enterDrop.le
      · exact (woken.setTransport _).le
    · exact woken.le

theorem Costs.postTrayPulled (h : Costs n s t) : Costs (n + 1) s (postTrayPulled t) := (h.postGate _ _ _ _ _).setFlag _

theorem Costs.enterNoTray (h : Costs n s t) : Costs n s (enterNoTray t) := h.setTransport _

/-! ### The decode pass (R114, R116): an edge completes at most one frame -/

theorem Costs.setDecoder (h : Costs n s t) (d : Decoder) : Costs n s { t with decoder := d } := h.same

theorem Costs.setDeck (h : Costs n s t) (d : Deck) : Costs n s { t with deck := d } := h.same

theorem Costs.timeMark (h : Costs n s t) (sec : Nat) : Costs n s (timeMark sec t) := h.setDeck _

theorem Costs.completeFrame (h : Costs n s t) (f : CueFrame) (at_ : Clock32) : Costs (n + 1) s (completeFrame f at_ t) := by
  unfold Machine.completeFrame
  dsimp only
  split
  · exact (h.setDecoder _).le
  · split
    · exact (h.setDecoder _).le
    · unfold deliver
      split
      · exact (h.setDecoder _).postCue _ _ _
      · exact ((h.setDecoder _).timeMark _).le

theorem Costs.takeBit (h : Costs n s t) (b : Bool) (at_ : Clock32) : Costs (n + 1) s (takeBit b at_ t) := by
  unfold Machine.takeBit
  dsimp only
  split
  · exact (h.setDecoder _).le
  · split
    · exact (h.setDecoder _).le
    · split
      · exact (h.setDecoder _).le
      · split
        · exact h.le
        · split
          · exact (h.setDecoder _).completeFrame _ _
          · exact (h.setDecoder _).le

theorem Costs.takeInterval (h : Costs n s t) (i : Nat) (at_ : Clock32) : Costs (n + 1) s (takeInterval i at_ t) := by
  unfold Machine.takeInterval
  split
  · exact h.le
  · exact (h.setDecoder _).le
  · exact (h.setDecoder _).le
  · exact (h.setDecoder _).le
  · unfold dataTake
    split
    · exact (h.setDecoder _).le
    · exact (h.setDecoder _).takeBit _ _
    · exact (h.setDecoder _).takeBit _ _
    · exact (h.setDecoder _).le
  · exact (h.setDecoder _).le

theorem Costs.takeEdge (h : Costs n s t) (at_ : Clock32) : Costs (n + 1) s (takeEdge at_ t) := by
  unfold Machine.takeEdge
  dsimp only
  split
  · exact (h.setDecoder _).le
  · exact (h.setDecoder _).takeInterval _ _

theorem Costs.takeEdges (h : Costs n s t) (es : List Clock32) : Costs (n + es.length) s (takeEdges es t) := by
  induction es generalizing n t with
  | nil => exact h
  | cons e es ih => exact (ih (h.takeEdge e)).le (by simp only [List.length_cons]; omega)

theorem Costs.decodePass (h : Costs n s t) : Costs (n + t.decoder.ring.length) s (decodePass t) :=
  ((h.setDecoder _).takeEdges _).setDecoder _

/-! ### The deck, the follower and the cooling period -/

theorem Costs.setDeckMode (h : Costs n s t) (m : DeckMode) : Costs n s (setDeckMode m t) := h.same

theorem Costs.tapeEnded (h : Costs n s t) : Costs (n + 1) s (tapeEnded t) := by
  have braking : Costs n s (startBraking (.mode .stop) { t with deck := { t.deck with locate := none } }) := h.same
  have flagged := (braking.postGate .tapeEnd .deck noCue t.decoder.errors t.decoder.overflows).setFlag .tapeEnd
  unfold Machine.tapeEnded holdAtTapeEnd
  split
  · exact flagged.setRunState _
  · exact flagged.setRunState _
  · exact flagged

theorem Costs.takeSync (h : Costs n s t) (lead here : Clock32) : Costs (n + 1) s (takeSync lead here t) := by
  unfold Machine.takeSync
  dsimp only
  refine Costs.setLine (t := _) ?_ _ rfl
  split
  · unfold postStep
    split
    · exact h.postGate _ _ _ _ _
    · exact h.le
  · exact h.le

theorem Costs.takeBroadcast (h : Costs n s t) (f : LinkFrame) : Costs (n + 1) s (takeBroadcast f t) := by
  unfold Machine.takeBroadcast
  split
  · split
    · exact (h.setLine _).le
    · exact h.postCue _ _ _
  · exact h.postCue _ _ _
  · exact h.postCue _ _ _
  · exact h.postCue _ _ _
  · exact h.postCue _ _ _

theorem Costs.decideBand (h : Costs n s t) (gate house : Nat) : Costs (n + 1) s (decideBand gate house t) := by
  unfold Machine.decideBand
  dsimp only
  split
  · exact (((h.setPowerRecord _).postGate _ _ _ _ _).setFlag _).holdShow
  · exact (h.setPowerRecord _).le

theorem Costs.testCooldown (h : Costs n s t) : Costs (n + 1) s (testCooldown t) := by
  unfold Machine.testCooldown
  split
  · exact h.le
  · dsimp only
    split
    · exact (h.setPowerRecord _).testShutdown
    · exact (h.setPowerRecord _).le

theorem Costs.setFan (h : Costs n s t) (f : Nat) : Costs n s (setFan f t) := h.same

end Sys2Proof.Machine
end

section
/-! PROOFS. What each command can add to the log, and the entries and flags that stay as they are. -/

namespace Sys2Proof.Machine

set_option Elab.async false

variable {n : Nat} {s t : State}

/-- The outcome is a state, reached at a cost of at most `n`. -/
def CostsNext (n : Nat) (s : State) (o : Host.Outcome State Fault Refusal) : Prop := ∀ t, o = .next t → Costs n s t

theorem CostsNext.le {m : Nat} {o : Host.Outcome State Fault Refusal} (h : CostsNext n s o) (le : n ≤ m := by omega) :
    CostsNext m s o := fun t e => (h t e).le le

theorem Costs.next (h : Costs n s t) : CostsNext n s (.next t) := fun _ e => (Host.Outcome.next.inj e) ▸ h

/-! ### The cue engine and the transport -/

theorem execCueTake_costs (s : State) : CostsNext 10 s (execCueTake s) := by
  refine Costs.next ?_
  split
  · split
    · rename_i c rest queued
      exact ((Costs.refl _).resolveCue c).paid rfl (by simp only [waiting, queued, List.length_cons]; omega)
    · exact (Costs.refl s).le
  · exact (Costs.refl s).le

theorem execCueStart_costs (s : State) : CostsNext 3 s (execCueStart s) := by
  refine Costs.next ?_
  split
  · split
    · exact (Costs.refl s).startCue _
    · exact (Costs.refl s).le
  · exact (Costs.refl s).le

theorem execTrayStep_costs (s : State) : CostsNext 1 s (execTrayStep s) := by
  refine Costs.next ?_
  split
  · split
    · exact (Costs.refl s).dueStep _
    · exact (Costs.refl s).le
  · exact (Costs.refl s).le

theorem execHomingSearchExhausted_costs (s : State) : CostsNext 3 s (execHomingSearchExhausted s) := by
  refine Costs.next ?_
  split
  · exact (Costs.refl s).jam _
  · exact (Costs.refl s).le

theorem execStallSensed_costs (s : State) : CostsNext 3 s (execStallSensed s) := by
  refine Costs.next ?_
  split
  · split
    · unfold stall
      dsimp only
      split
      · exact ((Costs.refl s).setTransport _).jam _
      · exact ((Costs.refl s).setTransport _).le
    · exact (Costs.refl s).le
  · exact (Costs.refl s).le

theorem execStallPauseEnd_costs (s : State) : CostsNext 0 s (execStallPauseEnd s) := by
  refine Costs.next ?_
  split
  · split
    · exact ((Costs.refl s).setTransport _).beginMove _ _
    · exact .refl s
  · exact .refl s

theorem execTrayIndexEdge_costs (s : State) : CostsNext 2 s (execTrayIndexEdge s) := by
  refine Costs.next ?_
  split
  · split
    · exact (Costs.refl s).le
    · split
      · exact (((Costs.refl s).setTransport _).replaceMove _ _).le
      · exact (Costs.refl s).resync _
  · exact (Costs.refl s).le

theorem execCamEncoderCount_costs (s : State) : CostsNext 3 s (execCamEncoderCount s) := by
  refine Costs.next ?_
  split
  · dsimp only
    split
    · exact ((Costs.refl s).setTransport _).le
    · exact ((Costs.refl s).setTransport _).le
    · exact ((Costs.refl s).setTransport _).camAdvanced _ _ _
    · exact ((Costs.refl s).setTransport _).le
  · exact (Costs.refl s).le

theorem execCamIndexEdge_costs (s : State) : CostsNext 3 s (execCamIndexEdge s) := by
  refine Costs.next ?_
  have zero (x : Transport) := (Costs.refl s).setTransport x
  dsimp only
  split
  · exact (zero _).focusGuard.le
  · split
    · exact ((zero _).setTransport _).startNormal _
    · exact (zero _).focusGuard.enterSeat
    · exact (zero _).focusGuard.enterSeat
    · exact (zero _).focusGuard.le

theorem execCamTimeout_costs (s : State) : CostsNext 3 s (execCamTimeout s) := by
  refine Costs.next ?_
  split
  · exact (Costs.refl s).jam _
  · exact (Costs.refl s).le

theorem execSeatTimeout_costs (s : State) : CostsNext 4 s (execSeatTimeout s) := by
  refine Costs.next ?_
  split
  · split
    · exact (Costs.refl s).seatMade.le
    · exact ((Costs.refl s).post _ _ _ _ _ _).completeCycle
    · split
      · exact ((Costs.refl s).jam _).le
      · exact (((Costs.refl s).setTransport _).startRevolution.focusGuard).le
  · exact (Costs.refl s).le

theorem execGateChange_costs (g : GateReading) (s : State) : CostsNext 3 s (execGateChange g s) := by
  refine Costs.next ?_
  dsimp only
  split
  · exact ((Costs.refl s).setTransport _).seatMade
  · exact ((Costs.refl s).setTransport _).le

theorem execTrayRemoved_costs (s : State) : CostsNext 3 s (execTrayRemoved s) := by
  refine Costs.next ?_
  split
  · exact (Costs.refl s).postTrayPulled.enterNoTray.abortCycle.testShutdown
  · split
    · exact (Costs.refl s).enterNoTray.le
    · exact (Costs.refl s).postTrayPulled.enterNoTray.le
  · exact (Costs.refl s).enterNoTray.le
  · exact (Costs.refl s).enterNoTray.le
  · exact (Costs.refl s).le

theorem execTrayInserted_costs (s : State) : CostsNext 0 s (execTrayInserted s) := by
  refine Costs.next ?_
  split
  · exact (Costs.refl s).setTransport _
  · exact .refl s

theorem execFocusAllowanceSpent_costs (s : State) : CostsNext 0 s (execFocusAllowanceSpent s) := by
  refine Costs.next ?_
  split
  · exact (Costs.refl s).setTransport _
  · exact .refl s

/-! ### The lamp -/

theorem execLampPeriod_costs (vs im : Code10) (s : State) : CostsNext 12 s (execLampPeriod vs im s) := by
  refine Costs.next ?_
  have restarted : Costs 0 s (restartLampPeriod s) := (Costs.refl s).same
  exact (((restarted.rampStage.currentTest _).dutyStage _).setLamp _ |>.setPowerRecord _).runupReading _

theorem execLampRampDone_costs (s : State) : CostsNext 4 s (execLampRampDone s) := by
  refine Costs.next ?_
  split
  · exact (Costs.refl s).rampDone
  · exact (Costs.refl s).le

theorem execOpenFilament_costs (s : State) : CostsNext 6 s (execOpenFilament s) := by
  refine Costs.next ?_
  split
  · exact (Costs.refl s).socketFails _
  · exact (Costs.refl s).le

theorem execLowSupply_costs (vs : Code10) (s : State) : CostsNext 1 s (execLowSupply vs s) := by
  refine Costs.next ?_
  split
  · exact ((Costs.refl s).setLamp _).postLowSupply _
  · exact (Costs.refl s).le

theorem execEndSwitchChange_costs (primary spare : Bool) (s : State) :
    CostsNext 4 s (execEndSwitchChange primary spare s) := by
  refine Costs.next ?_
  have reported : Costs 0 s (setSwitches primary spare s) := (Costs.refl s).setLamp _
  dsimp only
  split
  · split
    · exact reported.carriageArrived.le
    · exact reported.le
  · split
    · exact reported.le
    · exact (reported.leaveLit _).startSwap _ _
  · exact reported.followCarriage.le
  · exact reported.followCarriage.le

theorem execCarriageArrival_costs (s : State) : CostsNext 2 s (execCarriageArrival s) := by
  refine Costs.next ?_
  dsimp only
  split
  · exact ((Costs.refl s).setLamp _).carriageArrived
  · exact ((Costs.refl s).setLamp _).le

theorem execCarriageTimeout_costs (s : State) : CostsNext 2 s (execCarriageTimeout s) := by
  refine Costs.next ?_
  split
  · exact (((((Costs.refl s).setLamp _).postNoLamp _ _).setFlag _).setLamp _).testShutdown.followCarriage
  · exact (Costs.refl s).le

theorem execUsageTick_costs (s : State) : CostsNext 0 s (execUsageTick s) := (Costs.refl s).same.next

/-! ### The power unit -/

theorem execPowerKey_costs (s : State) : CostsNext 7 s (execPowerKey s) := (Costs.refl s).powerKeyPressed.next

theorem execRunupSupplyGood_costs (s : State) : CostsNext 1 s (execRunupSupplyGood s) := by
  refine Costs.next ?_
  split
  · exact ((Costs.refl s).setPowerRecord _).setPower _ _
  · exact (Costs.refl s).le

theorem execRunupTimeout_costs (s : State) : CostsNext 5 s (execRunupTimeout s) := by
  refine Costs.next ?_
  split
  · exact (((Costs.refl s).leaveRunup _).postGate _ _ _ _ _).setFlag _
  · exact (Costs.refl s).le

theorem execShutdownComplete_costs (s : State) : CostsNext 1 s (execShutdownComplete s) :=
  (Costs.refl s).testShutdown.next

theorem execCoolingPeriod_costs (gate house : Code10) (s : State) : CostsNext 2 s (execCoolingPeriod gate house s) := by
  refine Costs.next ?_
  have restarted : Costs 0 s { s with clock := { s.clock with coolingPeriod := startTimer coolingPeriodUs s } } :=
    (Costs.refl s).same
  exact ((restarted.decideBand _ _).setPowerRecord _).testCooldown.setFan _

theorem execFanSpinUpEnd_costs (s : State) : CostsNext 0 s (execFanSpinUpEnd s) := by
  refine Costs.next ?_
  split
  · exact (Costs.refl s).setPowerRecord _
  · exact .refl s

theorem execFanTachEdge_costs (s : State) : CostsNext 0 s (execFanTachEdge s) := by
  refine Costs.next ?_
  split
  · exact (Costs.refl s).setPowerRecord _
  · split
    · exact .refl s
    · exact (Costs.refl s).setPowerRecord _
  · exact .refl s
  · exact .refl s

theorem execFanGapTimeout_costs (s : State) : CostsNext 1 s (execFanGapTimeout s) := by
  refine Costs.next ?_
  split
  · exact (((Costs.refl s).setPowerRecord _).postGate _ _ _ _ _).setFlag _
  · exact (Costs.refl s).le

theorem execFanRecoveryGap_costs (s : State) : CostsNext 0 s (execFanRecoveryGap s) := by
  refine Costs.next ?_
  split
  · exact (Costs.refl s).setPowerRecord _
  · exact .refl s

theorem execFanRecovered_costs (s : State) : CostsNext 0 s (execFanRecovered s) := by
  refine Costs.next ?_
  split
  · exact (Costs.refl s).setPowerRecord _
  · exact .refl s

/-! ### The deck, the cue track and the writer -/

theorem execBrakeEnd_costs (s : State) : CostsNext 0 s (execBrakeEnd s) := by
  refine Costs.next ?_
  split
  · exact (Costs.refl s).same
  · exact .refl s

theorem Costs.setCounter (h : Costs n s t) (c : Int) : Costs n s (setCounter c t) := h.same

theorem execReelPulse_costs (s : State) : CostsNext 0 s (execReelPulse s) := by
  refine Costs.next ?_
  split
  · exact .refl s
  · refine Costs.setCounter ?_ _
    split
    · exact (Costs.refl s).setDeck _
    · exact .refl s

theorem execTapeEnd_costs (s : State) : CostsNext 1 s (execTapeEnd s) := by
  refine Costs.next ?_
  split
  · exact (((Costs.refl s).setDeck _).setDeckMode _).le
  · exact (Costs.refl s).tapeEnded
  · exact (Costs.refl s).tapeEnded
  · exact (Costs.refl s).tapeEnded
  · exact (Costs.refl s).le
  · exact (Costs.refl s).le

theorem execTapeSecond_costs (s : State) : CostsNext 0 s (execTapeSecond s) := by
  refine Costs.next ?_
  split
  · exact (Costs.refl s).setDeck _
  · exact .refl s

theorem execAudioPeriod_costs (s : State) : CostsNext 0 s (execAudioPeriod s) := (Costs.refl s).same.next

theorem execCueEdge_costs (s : State) : CostsNext 0 s (execCueEdge s) := by
  refine Costs.next ?_
  split
  · exact (Costs.refl s).setDecoder _
  · exact .refl s

theorem execDecodePass_costs (s : State) : CostsNext s.decoder.ring.length s (execDecodePass s) := by
  refine Costs.next ?_
  split
  · exact (Costs.refl s).le
  · exact ((Costs.refl s).setDecoder _).decodePass.le (Nat.le_of_eq (Nat.zero_add _))

theorem execCellBoundary_costs (s : State) : CostsNext 0 s (execCellBoundary s) := by
  refine Costs.next ?_
  split
  · exact (Costs.refl s).same
  · exact .refl s

/-! ### The lead's line -/

theorem enterPowering_costs (s : State) : Costs 0 s (enterPowering s) := (Costs.refl s).setLine _

theorem execDischargeEnd_costs (s : State) : CostsNext 0 s (execDischargeEnd s) := by
  refine Costs.next ?_
  split
  · exact (Costs.refl s).setLine _
  · exact .refl s

theorem execDetectPeriod_costs (v : Code10) (s : State) : CostsNext 0 s (execDetectPeriod v s) := by
  refine Costs.next ?_
  split
  · split
    · split
      · exact enterPowering_costs s
      · exact (Costs.refl s).setLine _
    · exact (Costs.refl s).setLine _
  · exact .refl s

theorem execLineDetected_costs (s : State) : CostsNext 0 s (execLineDetected s) := by
  refine Costs.next ?_
  split
  · exact enterPowering_costs s
  · exact .refl s

theorem execSettlingEnd_costs (s : State) : CostsNext 0 s (execSettlingEnd s) := by
  refine Costs.next ?_
  split
  · exact ((Costs.refl s).setLine _).fillPolls.enterIdle
  · exact .refl s

theorem execLineOvercurrent_costs (s : State) : CostsNext 6 s (execLineOvercurrent s) := by
  refine Costs.next ?_
  split
  · exact (Costs.refl s).overcurrent
  · exact (Costs.refl s).le

theorem execRetryTimerEnd_costs (s : State) : CostsNext 0 s (execRetryTimerEnd s) := by
  refine Costs.next ?_
  split
  · exact enterPowering_costs s
  · exact .refl s

theorem execQuietTimerEnd_costs (s : State) : CostsNext 0 s (execQuietTimerEnd s) := by
  refine Costs.next ?_
  split
  · exact (Costs.refl s).setLine _
  · exact .refl s

theorem execNoAnswerTimeout_costs (s : State) : CostsNext 5 s (execNoAnswerTimeout s) := by
  refine Costs.next ?_
  split
  · exact (Costs.refl s).noAnswer
  · exact (Costs.refl s).le

theorem execLeadFrameSent_costs (s : State) : CostsNext 0 s (execLeadFrameSent s) := by
  refine Costs.next ?_
  split
  · exact (Costs.refl s).frameSent
  · exact .refl s

theorem execReplyStart_costs (s : State) : CostsNext 0 s (execReplyStart s) := by
  refine Costs.next ?_
  split
  · exact (Costs.refl s).setLine _
  · exact .refl s

theorem execReplyReceived_costs (rx : LineRx) (s : State) : CostsNext 1 s (execReplyReceived rx s) := by
  refine Costs.next ?_
  split
  · split
    · exact (Costs.refl s).takeReply _ _
    · exact (Costs.refl s).enterIdle.le
  · exact (Costs.refl s).le

theorem execReplyWindowTimeout_costs (low : Bool) (s : State) : CostsNext 1 s (execReplyWindowTimeout low s) := by
  refine Costs.next ?_
  split
  · dsimp only
    split
    · exact (((Costs.refl s).missedReply _).setLine _).enterIdle
    · exact (((Costs.refl s).setLine _).enterIdle).le
  · exact (Costs.refl s).le

theorem execReceiveLineQuiet_costs (s : State) : CostsNext 0 s (execReceiveLineQuiet s) := by
  refine Costs.next ?_
  split
  · exact (Costs.refl s).enterIdle
  · split
    · exact ((Costs.refl s).setLine _).chooseFrame
    · exact .refl s

theorem execSyncTimer_costs (s : State) : CostsNext 0 s (execSyncTimer s) := by
  refine Costs.next ?_
  split
  · exact ((Costs.refl s).setLine _).chooseFrame
  · exact .refl s

theorem execPollPeriod_costs (s : State) : CostsNext 0 s (execPollPeriod s) := by
  refine Costs.next ?_
  split
  · exact ((Costs.refl s).setLine _).fillPolls.chooseFrame
  · exact .refl s

/-! ### The follower and the handset -/

theorem execFollowerPoll_costs (addr : BitVec 3) (s : State) : CostsNext 0 s (execFollowerPoll addr s) := by
  refine Costs.next ?_
  split
  · exact (Costs.refl s).setLine _
  · exact .refl s

theorem execFollowerSync_costs (lead : Clock32) (age : Nat) (s : State) : CostsNext 1 s (execFollowerSync lead age s) := by
  refine Costs.next ?_
  split
  · exact (Costs.refl s).takeSync _ _
  · exact (Costs.refl s).le

theorem execFollowerBroadcastCue_costs (f : LinkFrame) (s : State) : CostsNext 1 s (execFollowerBroadcastCue f s) := by
  refine Costs.next ?_
  split
  · exact (Costs.refl s).takeBroadcast _
  · exact (Costs.refl s).le

theorem execLinkStopFrame_costs (s : State) : CostsNext 2 s (execLinkStopFrame s) := by
  refine Costs.next ?_
  split
  · exact (Costs.refl s).requestStop
  · exact (Costs.refl s).le

theorem execLinkResumeFrame_costs (s : State) : CostsNext 1 s (execLinkResumeFrame s) := by
  refine Costs.next ?_
  split
  · exact (Costs.refl s).requestResume
  · exact (Costs.refl s).le

theorem execLineFrameError_costs (s : State) : CostsNext 0 s (execLineFrameError s) := by
  refine Costs.next ?_
  split
  · exact (Costs.refl s).setLine _
  · exact .refl s

theorem execSyncLost_costs (s : State) : CostsNext 1 s (execSyncLost s) := by
  refine Costs.next ?_
  split
  · dsimp only
    split
    · exact ((Costs.refl s).setLine _).postGate _ _ _ _ _
    · exact ((Costs.refl s).setLine _).le
  · exact (Costs.refl s).le

theorem execErrTimeout_costs (s : State) : CostsNext 0 s (execErrTimeout s) := ((Costs.refl s).setHandset _).next

theorem execEntryTimeout_costs (s : State) : CostsNext 0 s (execEntryTimeout s) := by
  refine Costs.next ?_
  split
  · exact (Costs.refl s).setHandset _
  · exact .refl s

theorem execAutoRepeatHoldEnd_costs (s : State) : CostsNext 1 s (execAutoRepeatHoldEnd s) := by
  refine Costs.next ?_
  split
  · dsimp only
    split
    · exact ((Costs.refl s).setHandset _).postHandset _
    · exact ((Costs.refl s).setHandset _).le
  · exact (Costs.refl s).le

/-! ### Every command but the end of a transaction and the resets -/

/-- A command that reaches the memory path alone costs nothing. -/
theorem costsNext_of_path {o : Host.Outcome State Fault Refusal} {P : State → Prop}
    (h : ∃ t, o = .next t ∧ t = { s with path := t.path } ∧ P t) : CostsNext 0 s o := by
  obtain ⟨t, rfl, rest, -⟩ := h
  rw [rest]
  exact (Costs.refl s).same.next

theorem exec_costs (c : Instr) (s : State) (open_ : c ≠ .transactionEnd) (power : ∀ r, c ≠ .powerOnReset r)
    (input : ∀ r, c ≠ .resetInput r) (edges : s.decoder.ring.length ≤ 256) : CostsNext 256 s (exec c s) := by
  have reaches := transactionsActOnlyAtEnd.1 c s
  cases c with
  | powerOnReset r => exact absurd rfl (power r)
  | resetInput r => exact absurd rfl (input r)
  | transactionEnd => exact absurd rfl open_
  | read a => exact (costsNext_of_path (reaches (by simp))).le
  | readDataByte m => exact (costsNext_of_path (reaches (by simp))).le
  | write a => exact (costsNext_of_path (reaches (by simp))).le
  | writeDataByte b => exact (costsNext_of_path (reaches (by simp))).le
  | setLatch => exact (costsNext_of_path (reaches (by simp))).le
  | clearLatch => exact (costsNext_of_path (reaches (by simp))).le
  | readStatus => exact (costsNext_of_path (reaches (by simp))).le
  | foreignTransaction b => exact (costsNext_of_path (reaches (by simp))).le
  | cueTake => exact (execCueTake_costs s).le
  | cueStart => exact (execCueStart_costs s).le
  | trayStep => exact (execTrayStep_costs s).le
  | homingSearchExhausted => exact (execHomingSearchExhausted_costs s).le
  | stallSensed => exact (execStallSensed_costs s).le
  | stallPauseEnd => exact (execStallPauseEnd_costs s).le
  | trayIndexEdge => exact (execTrayIndexEdge_costs s).le
  | camEncoderCount => exact (execCamEncoderCount_costs s).le
  | camIndexEdge => exact (execCamIndexEdge_costs s).le
  | camTimeout => exact (execCamTimeout_costs s).le
  | seatTimeout => exact (execSeatTimeout_costs s).le
  | gateChange g => exact (execGateChange_costs g s).le
  | trayRemoved => exact (execTrayRemoved_costs s).le
  | trayInserted => exact (execTrayInserted_costs s).le
  | focusAllowanceSpent => exact (execFocusAllowanceSpent_costs s).le
  | lampPeriod vs im => exact (execLampPeriod_costs vs im s).le
  | lampRampDone => exact (execLampRampDone_costs s).le
  | openFilament => exact (execOpenFilament_costs s).le
  | lowSupply vs => exact (execLowSupply_costs vs s).le
  | endSwitchChange primary spare => exact (execEndSwitchChange_costs primary spare s).le
  | carriageArrival => exact (execCarriageArrival_costs s).le
  | carriageTimeout => exact (execCarriageTimeout_costs s).le
  | usageTick => exact (execUsageTick_costs s).le
  | powerKey => exact (execPowerKey_costs s).le
  | runupSupplyGood => exact (execRunupSupplyGood_costs s).le
  | runupTimeout => exact (execRunupTimeout_costs s).le
  | shutdownComplete => exact (execShutdownComplete_costs s).le
  | coolingPeriod gate house => exact (execCoolingPeriod_costs gate house s).le
  | fanSpinUpEnd => exact (execFanSpinUpEnd_costs s).le
  | fanTachEdge => exact (execFanTachEdge_costs s).le
  | fanGapTimeout => exact (execFanGapTimeout_costs s).le
  | fanRecoveryGap => exact (execFanRecoveryGap_costs s).le
  | fanRecovered => exact (execFanRecovered_costs s).le
  | brakeEnd => exact (execBrakeEnd_costs s).le
  | reelPulse => exact (execReelPulse_costs s).le
  | tapeEnd => exact (execTapeEnd_costs s).le
  | tapeSecond => exact (execTapeSecond_costs s).le
  | audioPeriod => exact (execAudioPeriod_costs s).le
  | cueEdge => exact (execCueEdge_costs s).le
  | decodePass => exact (execDecodePass_costs s).le edges
  | cellBoundary => exact (execCellBoundary_costs s).le
  | dischargeEnd => exact (execDischargeEnd_costs s).le
  | detectPeriod v => exact (execDetectPeriod_costs v s).le
  | lineDetected => exact (execLineDetected_costs s).le
  | settlingEnd => exact (execSettlingEnd_costs s).le
  | lineOvercurrent => exact (execLineOvercurrent_costs s).le
  | retryTimerEnd => exact (execRetryTimerEnd_costs s).le
  | quietTimerEnd => exact (execQuietTimerEnd_costs s).le
  | noAnswerTimeout => exact (execNoAnswerTimeout_costs s).le
  | leadFrameSent => exact (execLeadFrameSent_costs s).le
  | replyStart => exact (execReplyStart_costs s).le
  | replyReceived rx => exact (execReplyReceived_costs rx s).le
  | replyWindowTimeout low => exact (execReplyWindowTimeout_costs low s).le
  | receiveLineQuiet => exact (execReceiveLineQuiet_costs s).le
  | syncTimer => exact (execSyncTimer_costs s).le
  | pollPeriod => exact (execPollPeriod_costs s).le
  | followerPoll addr => exact (execFollowerPoll_costs addr s).le
  | followerSync lead age => exact (execFollowerSync_costs lead age s).le
  | followerBroadcastCue f => exact (execFollowerBroadcastCue_costs f s).le
  | linkStopFrame => exact (execLinkStopFrame_costs s).le
  | linkResumeFrame => exact (execLinkResumeFrame_costs s).le
  | lineFrameError => exact (execLineFrameError_costs s).le
  | syncLost => exact (execSyncLost_costs s).le
  | errTimeout => exact (execErrTimeout_costs s).le
  | entryTimeout => exact (execEntryTimeout_costs s).le
  | autoRepeatHoldEnd => exact (execAutoRepeatHoldEnd_costs s).le

/-- Settles O48: a flag once set stays (`Keeps.flags`), and a command that costs less than the sequence numbers go round
adds as many entries as the next sequence number advances by. -/
theorem flagsAndLogEntriesStay : Obligations.FlagsAndLogEntriesStay := by
  refine ⟨fun c s t e ends power input => (exec_keeps c s ends power input e).flags,
    fun c s t e ends power input room bounded => ?_⟩
  obtain ⟨new, added, few⟩ := exec_costs c s ends power input bounded.edges t e
  have cues := bounded.cues
  have casts := bounded.broadcasts
  have short : new.length < 2 ^ 16 := by
    unfold waiting at few
    omega
  refine ⟨new, ?_, added.numbers, added.ring room⟩
  rw [added.next, add_sub_cancel_left, BitVec.toNat_ofNat, Nat.mod_eq_of_lt short]

end Sys2Proof.Machine
end
